-- ==== Sys2Proof/Word.lean ====
section
/-! DEFINITION. The byte of the 2S16's window, buffers and flash line. -/

namespace Sys2Proof

/-- One byte: a window field, a buffer byte, a byte on the flash line. -/
abbrev Byte := BitVec 8

end Sys2Proof
end

