-- ==== Sys2Proof/Syntax.lean ====
section
/-! DEFINITION. The commands of the 2S16: one constructor of Instr for each row of the table of operations and events. -/

namespace Sys2Proof

/-- The two bus interfaces ("port X, peer Y" in the manual). -/
inductive Port where
  | A
  | B
  deriving DecidableEq, Repr

/-- The 22 commands that a write to CMD can name (the command code table of the Register Window Reference). -/
inductive CommandName where
  | post | retire | start | stop | resume | flush
  | claim | release
  | openAperture | closeAperture
  | holdRequest | holdRenew | holdRelease
  | claimAuthority | releaseAuthority | commitProfile | commitRegion | commitDefaults
  | clearGlobalCounters | recover | clearCounters | softReset
  deriving DecidableEq, Repr

/-- The operations and events of the part, each whole and indivisible.  `p` is the port at which an access or a reset
takes place; `v` is the byte written; `status` and `data` are the bytes the flash device returned on FMISO in the
transaction that ends. -/
inductive Instr where
  /-- POST (R5): check the composer and fill the slot at the post index. -/
  | post (p : Port)
  /-- RETIRE (R21): free the DONE slot at the retire index. -/
  | retire (p : Port)
  /-- START (R9). -/
  | start (p : Port)
  /-- STOP (R10). -/
  | stop (p : Port)
  /-- RESUME (R11): move a HALTED queue back to RUNNING. -/
  | resume (p : Port)
  /-- FLUSH (R13): complete every QUEUED slot as FLUSHED. -/
  | flush (p : Port)
  /-- CLAIM (R85). -/
  | claim (p : Port)
  /-- RELEASE (R87). -/
  | release (p : Port)
  /-- OPEN (R99). -/
  | openAperture (p : Port)
  /-- CLOSE (R100). -/
  | closeAperture (p : Port)
  /-- HOLD_REQUEST (R134). -/
  | holdRequest (p : Port)
  /-- HOLD_RENEW (R139). -/
  | holdRenew (p : Port)
  /-- HOLD_RELEASE (R140). -/
  | holdRelease (p : Port)
  /-- CLAIM_AUTHORITY (R157). -/
  | claimAuthority (p : Port)
  /-- RELEASE_AUTHORITY (R158). -/
  | releaseAuthority (p : Port)
  /-- COMMIT_PROFILE (R151, R153). -/
  | commitProfile (p : Port)
  /-- COMMIT_REGION (R122). -/
  | commitRegion (p : Port)
  /-- COMMIT_DEFAULTS (R123). -/
  | commitDefaults (p : Port)
  /-- CLEAR_GLOBAL_COUNTERS (R171). -/
  | clearGlobalCounters (p : Port)
  /-- RECOVER (R54). -/
  | recover (p : Port)
  /-- CLEAR_COUNTERS (R171). -/
  | clearCounters (p : Port)
  /-- SOFT_RESET (R185). -/
  | softReset (p : Port)
  /-- UNDEFINED_COMMAND (R177): a CMD write whose code names no command. -/
  | undefinedCommand (p : Port) (code : Byte)
  /-- QMODE_WRITE (R12). -/
  | qmodeWrite (p : Port) (v : Byte)
  /-- BUFDATA_READ (R92). -/
  | bufdataRead (p : Port)
  /-- BUFDATA_WRITE (R92). -/
  | bufdataWrite (p : Port) (v : Byte)
  /-- APDATA_READ (R107). -/
  | apdataRead (p : Port)
  /-- EVFLAGS_WRITE (R162): `high` is false for offset 0x2C and true for offset 0x2D. -/
  | evflagsWrite (p : Port) (high : Bool) (v : Byte)
  /-- EVENABLE_WRITE (R163): `high` is false for offset 0x2E and true for offset 0x2F. -/
  | evenableWrite (p : Port) (high : Bool) (v : Byte)
  /-- CFGDATA_READ (R187). -/
  | cfgdataRead (p : Port)
  /-- CFGDATA_WRITE (R187). -/
  | cfgdataWrite (p : Port) (v : Byte)
  /-- REGISTER_WRITE (R176): a write to the window offset `offset`. -/
  | registerWrite (p : Port) (offset : BitVec 6) (v : Byte)
  /-- READ_ABANDON (R180): the master raises its strobe during a stall. -/
  | readAbandon (p : Port)
  /-- PRST_RECOGNISED (R183): a low level of 1 µs on the port's reset pin. -/
  | prstRecognised (p : Port)
  /-- PORT_IN_RESET_END (R183): the reset pin has been high for 1 µs. -/
  | portInResetEnd (p : Port)
  /-- POWER_ON_RESET (R184). -/
  | powerOnReset
  /-- LINE_TRANSACTION_START (R27). -/
  | lineTransactionStart
  /-- READ_TRANSACTION_END (R33). -/
  | readTransactionEnd (data : List Byte)
  /-- VERIFY_END (R34). -/
  | verifyEnd (data : List Byte)
  /-- FILL_TRANSACTION_END (R35). -/
  | fillTransactionEnd (data : List Byte)
  /-- WRITE_ENABLE_END (R37). -/
  | writeEnableEnd
  /-- WRITE_ENABLE_CHECK (R37): the end of the status read after WRITE_ENABLE. -/
  | writeEnableCheck (status : Byte)
  /-- COMMAND_TRANSACTION_END (R38). -/
  | commandTransactionEnd
  /-- POLL_TIMER_EXPIRY (R39). -/
  | pollTimerExpiry
  /-- POLL_END (R39). -/
  | pollEnd (status : Byte)
  /-- RUN_TIME_REACHES_MINIMUM (R75). -/
  | runTimeReachesMinimum
  /-- SUSPEND_TRANSACTION_END (R44). -/
  | suspendTransactionEnd
  /-- LATENCY_TIMER_EXPIRY (R44). -/
  | latencyTimerExpiry
  /-- HANDSHAKE_READ_END (R44). -/
  | handshakeReadEnd (status : Byte)
  /-- DWELL_TIMER_EXPIRY (R48). -/
  | dwellTimerExpiry
  /-- RESUME_TRANSACTION_END (R49). -/
  | resumeTransactionEnd
  /-- RESET_ENABLE_END (R52). -/
  | resetEnableEnd
  /-- RESET_DEVICE_END (R52). -/
  | resetDeviceEnd
  /-- RECOVERY_DELAY_EXPIRY (R52). -/
  | recoveryDelayExpiry
  /-- INITIALIZATION_END (R52). -/
  | initializationEnd (status : Byte)
  /-- RECOVERY_END (R55). -/
  | recoveryEnd (status : Byte)
  /-- STALL_TIMER_EXPIRY (R108). -/
  | stallTimerExpiry (p : Port)
  /-- HOLD_TIMER_EXPIRY (R138). -/
  | holdTimerExpiry
  /-- HOLDOFF_TIMER_EXPIRY (R168). -/
  | holdoffTimerExpiry (p : Port)
  /-- POWER_ON_RESET_END (R184): the operands say which port reset pins are low at that moment. -/
  | powerOnResetEnd (lowA lowB : Bool)
  deriving DecidableEq, Repr

end Sys2Proof
end

