-- ==== Sys2Proof/Decode.lean ====
section
/-! DEFINITION. What an access at a port's window spells: the command codes of CMD (R177) and the offset decode of the
window (R186).  No row of spec/opcode_table.json gives bits, so decodeTableWord answers none for every word. -/

namespace Sys2Proof

/-- The port on the other side of the part. -/
def Port.peer : Port → Port
  | .A => .B
  | .B => .A

/-- The command code table of the Register Window Reference (R177): every other value names no command. -/
def CommandName.ofCode (code : Byte) : Option CommandName :=
  match code.toNat with
  | 0x01 => some .post
  | 0x02 => some .retire
  | 0x03 => some .start
  | 0x04 => some .stop
  | 0x05 => some .resume
  | 0x06 => some .flush
  | 0x10 => some .claim
  | 0x11 => some .release
  | 0x20 => some .openAperture
  | 0x21 => some .closeAperture
  | 0x30 => some .holdRequest
  | 0x31 => some .holdRenew
  | 0x32 => some .holdRelease
  | 0x40 => some .claimAuthority
  | 0x41 => some .releaseAuthority
  | 0x42 => some .commitProfile
  | 0x43 => some .commitRegion
  | 0x44 => some .commitDefaults
  | 0x45 => some .clearGlobalCounters
  | 0x50 => some .recover
  | 0x60 => some .clearCounters
  | 0x7F => some .softReset
  | _ => none

/-- The code a master writes to CMD for a command (the same table, read the other way). -/
def CommandName.code : CommandName → Byte
  | .post => 0x01
  | .retire => 0x02
  | .start => 0x03
  | .stop => 0x04
  | .resume => 0x05
  | .flush => 0x06
  | .claim => 0x10
  | .release => 0x11
  | .openAperture => 0x20
  | .closeAperture => 0x21
  | .holdRequest => 0x30
  | .holdRenew => 0x31
  | .holdRelease => 0x32
  | .claimAuthority => 0x40
  | .releaseAuthority => 0x41
  | .commitProfile => 0x42
  | .commitRegion => 0x43
  | .commitDefaults => 0x44
  | .clearGlobalCounters => 0x45
  | .recover => 0x50
  | .clearCounters => 0x60
  | .softReset => 0x7F

/-- The row of the table that a named command of port `p` is. -/
def CommandName.toInstr (p : Port) : CommandName → Instr
  | .post => .post p
  | .retire => .retire p
  | .start => .start p
  | .stop => .stop p
  | .resume => .resume p
  | .flush => .flush p
  | .claim => .claim p
  | .release => .release p
  | .openAperture => .openAperture p
  | .closeAperture => .closeAperture p
  | .holdRequest => .holdRequest p
  | .holdRenew => .holdRenew p
  | .holdRelease => .holdRelease p
  | .claimAuthority => .claimAuthority p
  | .releaseAuthority => .releaseAuthority p
  | .commitProfile => .commitProfile p
  | .commitRegion => .commitRegion p
  | .commitDefaults => .commitDefaults p
  | .clearGlobalCounters => .clearGlobalCounters p
  | .recover => .recover p
  | .clearCounters => .clearCounters p
  | .softReset => .softReset p

/-- The command that a byte written to CMD by port `p` is (R177). -/
def decodeCommand (p : Port) (code : Byte) : Instr :=
  match CommandName.ofCode code with
  | some c => c.toInstr p
  | none => .undefinedCommand p code

/-- The write offsets that have a row of their own in the table: CMD, QMODE, BUFDATA, EVFLAGS, EVENABLE, CFGDATA. -/
def ownWriteRow (offset : BitVec 6) : Bool :=
  [0x02, 0x0D, 0x1A, 0x2C, 0x2D, 0x2E, 0x2F, 0x3D].contains offset.toNat

/-- The row of the table that a write of the byte `v` at a window offset is: the window decodes by offset alone (R186). -/
def decodeWrite (p : Port) (offset : BitVec 6) (v : Byte) : Instr :=
  match offset.toNat with
  | 0x02 => decodeCommand p v
  | 0x0D => .qmodeWrite p v
  | 0x1A => .bufdataWrite p v
  | 0x2C => .evflagsWrite p false v
  | 0x2D => .evflagsWrite p true v
  | 0x2E => .evenableWrite p false v
  | 0x2F => .evenableWrite p true v
  | 0x3D => .cfgdataWrite p v
  | _ => .registerWrite p offset v

/-- The row that a read at a window offset is, for the three reads that change something (R175); every other read only
shows the state (Machine/Window.lean gives its value) and has no row. -/
def decodeRead (p : Port) (offset : BitVec 6) : Option Instr :=
  match offset.toNat with
  | 0x1A => some (.bufdataRead p)
  | 0x23 => some (.apdataRead p)
  | 0x3D => some (.cfgdataRead p)
  | _ => none

/-- The bus write that a row is: its port, window offset and byte; none for the rows that are no bus write. -/
def busWriteOf : Instr → Option (Port × BitVec 6 × Byte)
  | .post p => some (p, 0x02, CommandName.post.code)
  | .retire p => some (p, 0x02, CommandName.retire.code)
  | .start p => some (p, 0x02, CommandName.start.code)
  | .stop p => some (p, 0x02, CommandName.stop.code)
  | .resume p => some (p, 0x02, CommandName.resume.code)
  | .flush p => some (p, 0x02, CommandName.flush.code)
  | .claim p => some (p, 0x02, CommandName.claim.code)
  | .release p => some (p, 0x02, CommandName.release.code)
  | .openAperture p => some (p, 0x02, CommandName.openAperture.code)
  | .closeAperture p => some (p, 0x02, CommandName.closeAperture.code)
  | .holdRequest p => some (p, 0x02, CommandName.holdRequest.code)
  | .holdRenew p => some (p, 0x02, CommandName.holdRenew.code)
  | .holdRelease p => some (p, 0x02, CommandName.holdRelease.code)
  | .claimAuthority p => some (p, 0x02, CommandName.claimAuthority.code)
  | .releaseAuthority p => some (p, 0x02, CommandName.releaseAuthority.code)
  | .commitProfile p => some (p, 0x02, CommandName.commitProfile.code)
  | .commitRegion p => some (p, 0x02, CommandName.commitRegion.code)
  | .commitDefaults p => some (p, 0x02, CommandName.commitDefaults.code)
  | .clearGlobalCounters p => some (p, 0x02, CommandName.clearGlobalCounters.code)
  | .recover p => some (p, 0x02, CommandName.recover.code)
  | .clearCounters p => some (p, 0x02, CommandName.clearCounters.code)
  | .softReset p => some (p, 0x02, CommandName.softReset.code)
  | .undefinedCommand p code => some (p, 0x02, code)
  | .qmodeWrite p v => some (p, 0x0D, v)
  | .bufdataWrite p v => some (p, 0x1A, v)
  | .evflagsWrite p high v => some (p, if high then 0x2D else 0x2C, v)
  | .evenableWrite p high v => some (p, if high then 0x2F else 0x2E, v)
  | .cfgdataWrite p v => some (p, 0x3D, v)
  | .registerWrite p offset v => some (p, offset, v)
  | .bufdataRead _ | .apdataRead _ | .cfgdataRead _ | .readAbandon _ | .prstRecognised _ | .portInResetEnd _
  | .powerOnReset | .lineTransactionStart | .readTransactionEnd _ | .verifyEnd _ | .fillTransactionEnd _
  | .writeEnableEnd | .writeEnableCheck _ | .commandTransactionEnd | .pollTimerExpiry | .pollEnd _
  | .runTimeReachesMinimum | .suspendTransactionEnd | .latencyTimerExpiry | .handshakeReadEnd _ | .dwellTimerExpiry
  | .resumeTransactionEnd | .resetEnableEnd | .resetDeviceEnd | .recoveryDelayExpiry | .initializationEnd _
  | .recoveryEnd _ | .stallTimerExpiry _ | .holdTimerExpiry | .holdoffTimerExpiry _ | .powerOnResetEnd _ _ => none

/-- What a bus cycle at a port is: R175 takes a read or a write only with chip select low and exactly one strobe low.
The arguments are the levels of X_CS#, X_RD# and X_WR# (true is high); the answer is none for a cycle the port ignores,
some true for a write and some false for a read. -/
def busCycle (cs rd wr : Bool) : Option Bool :=
  if !cs && !rd && wr then some false
  else if !cs && rd && !wr then some true
  else none

/-- The command that a word spells by the bits spec/opcode_table.json gives: no row gives any, so none. -/
def decodeTableWord (_nbits _w : Nat) : Option Instr := none

end Sys2Proof
end

