-- ==== Sys2Proof/Config.lean ====
section
/-! DEFINITION. What is fixed for the part, and the one free value of the model. -/

namespace Sys2Proof

/-- REFCLK is 32 MHz and the timebase is 1 µs (R27, Conventions): 32 REFCLK cycles make 1 µs.  The model keeps every time
in REFCLK cycles (assumption 2). -/
def Config.cyclesPerMicrosecond : Nat := 32

/-- FREE VALUE (assumption 3, DESIGN CHOICE).  Where several of the part's own timers fall due in one REFCLK cycle the
manual lets their expiries be taken in either order: this names, for the tick's number and the place of the event in the
model's list, where among the events already placed it is queued.  It has no body that a proof could use. -/
opaque Config.tiePosition : Nat → Nat → Nat

end Sys2Proof
end

