-- ==== Sys2Proof/Machine/State.lean ====
section
/-! DEFINITION. The state of the 2S16 as plain data, block by block as the manual's block overview lists them, and the
state right after power-on reset. -/

namespace Sys2Proof.Machine

/-- A value for each of the two ports. -/
structure Both (α : Type) where
  a : α
  b : α
  deriving DecidableEq, Repr

/-- A timer: stopped, or running with the REFCLK cycles left to its expiry. -/
abbrev Timer := Option Nat

/-! ### Command queues (R1 to R3, R8, R12) -/

/-- The kinds of queued operation (R1). -/
inductive Kind where
  | read | verify | program | eraseSector | eraseBlock
  deriving DecidableEq, Repr

/-- The completion statuses (R16, and FLUSHED of R13). -/
inductive Status where
  | ok | denied | notEnabled | flashFail | timeout | mismatch | flushed
  deriving DecidableEq, Repr

/-- The length, 1 to 256, and the buffer of a READ, VERIFY or PROGRAM (R1). -/
structure Transfer where
  length : Nat
  buffer : Fin 16
  deriving DecidableEq, Repr

/-- What a POST puts into a slot (R1): `transfer` is present for READ, VERIFY and PROGRAM only. -/
structure SlotOp where
  kind : Kind
  tag : Byte
  addr : Nat
  transfer : Option Transfer
  deriving DecidableEq, Repr

/-- The completion part of a slot (R1): status, detail byte and suspend count 0 to 15. -/
structure Completion where
  status : Status
  detail : Byte
  suspends : Nat
  deriving DecidableEq, Repr

/-- A slot of a ring (R1): a FREE slot holds no operation, only a DONE slot has a completion part. -/
inductive Slot where
  | free
  | queued (op : SlotOp)
  | active (op : SlotOp)
  | done (op : SlotOp) (c : Completion)
  deriving DecidableEq, Repr

/-- The four queue states (R8). -/
inductive QueueState where
  | stopped | running | stopping | halted
  deriving DecidableEq, Repr

/-- The composer (R3): KIND, TAG, ADDR, LEN and BUF as written. -/
structure Composer where
  kind : Byte
  tag : Byte
  addr : BitVec 24
  len : Byte
  buf : Byte
  deriving DecidableEq, Repr

/-- One port's command queue: the ring and its indices (R2), the queue state (R8), halt-on-error (R12), the composer (R3). -/
structure Queue where
  slots : Vector Slot 8
  retire : Fin 8
  start : Fin 8
  post : Fin 8
  state : QueueState
  haltOnError : Bool
  composer : Composer
  deriving DecidableEq, Repr

/-! ### Read apertures (R97, R98, R101) -/

/-- The four aperture states (R98). -/
inductive ApertureState where
  | closed | opened | denied | ended
  deriving DecidableEq, Repr

/-- The stall policy (R97). -/
inductive StallPolicy where
  | stall | noStall
  deriving DecidableEq, Repr

/-- One port's aperture record (R97), with APADDR (R101) and the stall timer (R108).  `stalled` is also the port
interface's stall in progress (R179): the two are set and cleared in the same events and are kept once. -/
structure Aperture where
  state : ApertureState
  current : Nat
  fetch : Nat
  fifo : List Byte
  generation : BitVec 16
  inFlight : Bool
  stalled : Bool
  policy : StallPolicy
  limit : Byte
  stallTimer : Timer
  apaddr : BitVec 24
  deriving DecidableEq, Repr

/-! ### Event units (R161, R163, R164, R166, R169) -/

/-- APCAUSE (R164). -/
inductive ApCause where
  | none | underrun | stallExpired | denied | ended | closedByCommit
  deriving DecidableEq, Repr

/-- HOLDCAUSE (R164). -/
inductive HoldCause where
  | none | granted | expired
  deriving DecidableEq, Repr

/-- RECCAUSE (R164). -/
inductive RecCause where
  | none | ok | failed
  deriving DecidableEq, Repr

/-- One port's event unit: the nine flags and enables in the bit order of EVFLAGS (bit 0 DONE to bit 8 CONFIG), the cause
bytes, the coalescing settings N and T with the pending count and the holdoff timer, and the two counters. -/
structure EventUnit where
  flags : BitVec 9
  enables : BitVec 9
  apCause : ApCause
  holdCause : HoldCause
  recCause : RecCause
  threshold : Byte
  holdoff : Byte
  pendingCount : Nat
  holdoffTimer : Timer
  errCnt : Byte
  denyCnt : Byte
  deriving DecidableEq, Repr

/-! ### Port interface (R178, R183) and the per-port window fields -/

/-- The result codes (R178). -/
inductive Result where
  | none | accepted
  | refusedState | refusedFull | refusedEmpty | refusedInvalid | refusedOwner
  | refusedNoBuffer | refusedQuota | refusedBusy | refusedLocked | refusedAuthority
  deriving DecidableEq, Repr

/-- Everything that exists once per port. -/
structure PortState where
  queue : Queue
  aperture : Aperture
  events : EventUnit
  /-- the claim-refused marker (R86) -/
  claimRefused : Bool
  /-- BUFSEL (R91) -/
  bufSel : Byte
  /-- BUFOFS (R91) -/
  bufOfs : Byte
  /-- HOLDTIME (R133) -/
  holdTime : Byte
  /-- CFGIDX (R187) -/
  cfgIdx : Byte
  /-- RESULT (R178) -/
  result : Result
  /-- the port-in-reset condition (R183) -/
  inReset : Bool
  /-- X_D[7:0] as the port's last BUFDATA, APDATA or CFGDATA read drove it; none is undriven (R92, R179, R183) -/
  dataOut : Option Byte
  deriving DecidableEq, Repr

/-! ### Buffer pool (R83) -/

/-- The holder of a buffer (R83): a LENT entry records the slot, or that it is lent to an orphaned operation. -/
inductive Holder where
  | free
  | port (p : Port)
  | lentSlot (p : Port) (n : Fin 8)
  | lentOrphan
  deriving DecidableEq, Repr

/-- The sixteen buffers of 256 bytes and their holder table (R83). -/
structure Pool where
  holders : Vector Holder 16
  bytes : Vector (Vector Byte 256) 16
  deriving DecidableEq, Repr

/-! ### Flash sequencer (R27 to R32, R39, R44, R48, R52) -/

/-- The ten sequencer states (R29). -/
inductive SeqState where
  | offline | initializing | idle | reading | writing | busyWait | suspending | resuming | fault | recovering
  deriving DecidableEq, Repr

/-- What an operation record was issued by (R31): a slot of a port's ring, or a port's aperture. -/
inductive Source where
  | queue (p : Port) (n : Fin 8)
  | fill (p : Port)
  deriving DecidableEq, Repr

/-- The kind of an operation record (R31): a slot kind, or FILL.  The class, read or write, follows from it. -/
inductive OpKind where
  | slot (k : Kind)
  | fill
  deriving DecidableEq, Repr

/-- A range of flash bytes, first to first + length − 1 (Conventions). -/
structure Range where
  first : Nat
  length : Nat
  deriving DecidableEq, Repr

/-- An operation record (R31).  Busy time and run time (R41) are kept in REFCLK cycles; `mismatch` is the first-mismatch
offset of a VERIFY, `generation` the fill generation of a fill. -/
structure OpRecord where
  source : Source
  orphan : Bool
  kind : OpKind
  range : Range
  buffer : Option (Fin 16)
  suspends : Nat
  unsuspendable : Bool
  busyTime : Nat
  runTime : Nat
  mismatch : Option Nat
  generation : Option (BitVec 16)
  deriving DecidableEq, Repr

/-- The suspended record: an operation record and its dwell in REFCLK cycles (R32). -/
structure Suspended where
  op : OpRecord
  dwell : Nat
  deriving DecidableEq, Repr

/-- What a line transaction is for: the uses of the five transaction kinds (R28). -/
inductive Transaction where
  | read | writeEnable | writeEnableCheck | command | poll | suspend | handshake | resume
  | resetEnable | resetDevice | finalRead
  deriving DecidableEq, Repr

/-- The flash line (R27): FCS# high; a transaction called for that has not begun; or a transaction on the line with the
REFCLK cycles left to its last bit. -/
inductive Line where
  | idle
  | called (t : Transaction)
  | onLine (t : Transaction) (left : Nat)
  deriving DecidableEq, Repr

/-- The flash sequencer: its state, the two operation records, the line with the REFCLK cycles that FCS# must still stay
high, the timers and the number of handshake reads made (R44). -/
structure Sequencer where
  state : SeqState
  active : Option OpRecord
  suspended : Option Suspended
  line : Line
  gap : Nat
  pollTimer : Timer
  latencyTimer : Timer
  dwellTimer : Timer
  recoveryTimer : Timer
  handshakeReads : Nat
  deriving DecidableEq, Repr

/-! ### Arbiter (R57) -/

/-- The arbiter's four items (R57). -/
structure Arbiter where
  readPointer : Port
  writePointer : Port
  suspendRequest : Bool
  resumeDue : Bool
  deriving DecidableEq, Repr

/-! ### Region table (R115, R116, R120) -/

/-- A region entry (R115).  A rights set has bit 0 READ, bit 1 PROGRAM, bit 2 ERASE. -/
structure RegionEntry where
  valid : Bool
  first : BitVec 12
  last : BitVec 12
  rightsA : BitVec 3
  rightsB : BitVec 3
  locked : Bool
  deriving DecidableEq, Repr

/-- The defaults record (R116). -/
structure DefaultsRecord where
  rightsA : BitVec 3
  rightsB : BitVec 3
  locked : Bool
  deriving DecidableEq, Repr

/-- The region table with the region staging bytes (index offsets 0 to 7) and the defaults staging bytes (0 to 2), as written. -/
structure RegionTable where
  entries : Vector RegionEntry 16
  defaults : DefaultsRecord
  staging : Vector Byte 8
  defaultsStaging : Vector Byte 3
  deriving DecidableEq, Repr

/-! ### Hold unit (R131) -/

/-- The hold states (R131). -/
inductive HoldState where
  | none | pending | held
  deriving DecidableEq, Repr

/-- The hold unit: each port's hold state, the recorded duration in ms, and the hold timer. -/
structure HoldUnit where
  state : Both HoldState
  duration : Byte
  timer : Timer
  deriving DecidableEq, Repr

/-! ### Profile and configuration authority (R147 to R149, R157) -/

/-- The 29 fields of a flash profile, at their offsets in the configuration index space (R147). -/
abbrev Profile := Vector Byte 29

/-- The profile block.  `committed` is none exactly while the profile state is UNCONFIGURED (R148). -/
structure ProfileUnit where
  committed : Option Profile
  staging : Profile
  authority : Option Port
  deriving DecidableEq, Repr

/-- SUSPCNT, TOCNT and RECFAIL (R170). -/
structure GlobalCounters where
  suspCnt : Byte
  toCnt : Byte
  recFail : Byte
  deriving DecidableEq, Repr

/-! ### The part -/

/-- The state of the part.  `powerOnReset` stands from POWER_ON_RESET to POWER_ON_RESET_END (R184).  `ticks` is the MODEL's own
counter of REFCLK cycles, to which the free value Config.tiePosition is applied (assumption 3).  `pending` is the queue of
the commands and events that wait to be taken, first in first out. -/
structure State where
  ports : Both PortState
  pool : Pool
  seq : Sequencer
  arbiter : Arbiter
  regions : RegionTable
  hold : HoldUnit
  profile : ProfileUnit
  counters : GlobalCounters
  powerOnReset : Bool
  ticks : Nat
  pending : List Instr
  deriving DecidableEq, Repr

/-- The reasons a step can stop with a fault.  There are none: the manual gives the part no stop; what a master does
wrong it answers in RESULT (R178), what the flash device does wrong in a completion status or the FAULT state (R56). -/
inductive Fault where
  deriving DecidableEq, Repr

/-- The reasons a step can be refused. -/
inductive Refusal where
  /-- Raised by exec's arm of a row of the table that has no meaning yet; safe.  No arm raises it. -/
  | notModelled (mnemonic : String)
  deriving DecidableEq, Repr

/-! ### Reset values -/

/-- The composer after either reset (R3). -/
def Composer.reset : Composer := { kind := 0, tag := 0, addr := 0, len := 0, buf := 0 }

/-- A command queue after either reset (R24, R25). -/
def Queue.reset : Queue :=
  { slots := Vector.replicate 8 .free, retire := 0, start := 0, post := 0, state := .stopped, haltOnError := false,
    composer := .reset }

/-- An aperture after power-on reset (R114); 0x64 is 100 µs. -/
def Aperture.reset : Aperture :=
  { state := .closed, current := 0, fetch := 0, fifo := [], generation := 0, inFlight := false, stalled := false,
    policy := .stall, limit := 0x64, stallTimer := none, apaddr := 0 }

/-- An event unit after either reset (R172, R174). -/
def EventUnit.reset : EventUnit :=
  { flags := 0, enables := 0, apCause := .none, holdCause := .none, recCause := .none, threshold := 1, holdoff := 0,
    pendingCount := 0, holdoffTimer := none, errCnt := 0, denyCnt := 0 }

/-- A port after power-on reset. -/
def PortState.reset : PortState :=
  { queue := .reset, aperture := .reset, events := .reset, claimRefused := false, bufSel := 0, bufOfs := 0, holdTime := 0,
    cfgIdx := 0, result := .none, inReset := false, dataOut := none }

/-- The buffer pool after power-on reset: all FREE, all bytes 0x00 (R96). -/
def Pool.reset : Pool :=
  { holders := Vector.replicate 16 .free, bytes := Vector.replicate 16 (Vector.replicate 256 0) }

/-- The sequencer after power-on reset (R29). -/
def Sequencer.reset : Sequencer :=
  { state := .offline, active := none, suspended := none, line := .idle, gap := 0, pollTimer := none, latencyTimer := none,
    dwellTimer := none, recoveryTimer := none, handshakeReads := 0 }

/-- The arbiter after power-on reset (R57). -/
def Arbiter.reset : Arbiter := { readPointer := .A, writePointer := .A, suspendRequest := false, resumeDue := false }

/-- A region entry after power-on reset (R128). -/
def RegionEntry.reset : RegionEntry :=
  { valid := false, first := 0, last := 0, rightsA := 0, rightsB := 0, locked := false }

/-- The region table after power-on reset: the defaults record gives READ to both ports (R116, R128). -/
def RegionTable.reset : RegionTable :=
  { entries := Vector.replicate 16 .reset, defaults := { rightsA := 1, rightsB := 1, locked := false },
    staging := Vector.replicate 8 0, defaultsStaging := Vector.replicate 3 0 }

/-- The hold unit after power-on reset (R131). -/
def HoldUnit.reset : HoldUnit := { state := ⟨.none, .none⟩, duration := 0, timer := none }

/-- The profile block after power-on reset (R148, R149, R157). -/
def ProfileUnit.reset : ProfileUnit := { committed := none, staging := Vector.replicate 29 0, authority := none }

/-- The part right after power-on reset has ended with both reset pins high (R184). -/
def State.reset : State :=
  { ports := ⟨.reset, .reset⟩, pool := .reset, seq := .reset, arbiter := .reset, regions := .reset, hold := .reset,
    profile := .reset, counters := { suspCnt := 0, toCnt := 0, recFail := 0 }, powerOnReset := false, ticks := 0,
    pending := [] }

end Sys2Proof.Machine
end

