-- ==== Sys2Proof/Machine/Ops.lean ====
section
/-! DEFINITION. The named operations over the state: one port's record, the ring, the holder table, ranges, the line and
the timers.  Every meaning reads and writes the state through them. -/

namespace Sys2Proof.Machine

/-- The value of one port. -/
def Both.get {α : Type} (x : Both α) : Port → α
  | .A => x.a
  | .B => x.b

/-- Replace the value of one port. -/
def Both.set {α : Type} (x : Both α) (p : Port) (v : α) : Both α :=
  match p with
  | .A => { x with a := v }
  | .B => { x with b := v }

/-- Everything that port `p` has to itself. -/
def State.port (s : State) (p : Port) : PortState := s.ports.get p

/-- Change port `p`'s record. -/
def State.modPort (s : State) (p : Port) (f : PortState → PortState) : State :=
  { s with ports := s.ports.set p (f (s.ports.get p)) }

/-- Port `p`'s command queue. -/
def State.queue (s : State) (p : Port) : Queue := (s.port p).queue

/-- Port `p`'s aperture. -/
def State.aperture (s : State) (p : Port) : Aperture := (s.port p).aperture

/-- Port `p`'s event unit. -/
def State.events (s : State) (p : Port) : EventUnit := (s.port p).events

/-- Change port `p`'s command queue. -/
def State.modQueue (s : State) (p : Port) (f : Queue → Queue) : State :=
  s.modPort p fun x => { x with queue := f x.queue }

/-- Change port `p`'s aperture. -/
def State.modAperture (s : State) (p : Port) (f : Aperture → Aperture) : State :=
  s.modPort p fun x => { x with aperture := f x.aperture }

/-- Write port `p`'s RESULT (R178). -/
def State.setResult (s : State) (p : Port) (r : Result) : State :=
  s.modPort p fun x => { x with result := r }

/-- Drive port `p`'s data lines with what a read returns (R176). -/
def State.drive (s : State) (p : Port) (d : Option Byte) : State :=
  s.modPort p fun x => { x with dataOut := d }

/-- Change the sequencer. -/
def State.modSeq (s : State) (f : Sequencer → Sequencer) : State := { s with seq := f s.seq }

/-- Put the sequencer into a state. -/
def State.setSeqState (s : State) (q : SeqState) : State := s.modSeq fun x => { x with state := q }

/-- Change the active operation record, if there is one. -/
def State.modActive (s : State) (f : OpRecord → OpRecord) : State :=
  s.modSeq fun x => { x with active := x.active.map f }

/-- Call for a line transaction (R27): it begins at LINE_TRANSACTION_START. -/
def State.callLine (s : State) (t : Transaction) : State := s.modSeq fun x => { x with line := .called t }

/-- The hold state of port `p` (R131). -/
def State.holdOf (s : State) (p : Port) : HoldState := s.hold.state.get p

/-- Set the hold state of port `p`. -/
def State.setHold (s : State) (p : Port) (h : HoldState) : State :=
  { s with hold := { s.hold with state := s.hold.state.set p h } }

/-- Record the duration of a hold in ms (R131). -/
def State.setDuration (s : State) (d : Byte) : State := { s with hold := { s.hold with duration := d } }

/-- Set or stop the hold timer (R131). -/
def State.setHoldTimer (s : State) (t : Timer) : State := { s with hold := { s.hold with timer := t } }

/-! ### Kinds, classes and ranges -/

/-- Write-class: PROGRAM and the erases (Terms). -/
def Kind.isWrite : Kind → Bool
  | .read | .verify => false
  | .program | .eraseSector | .eraseBlock => true

/-- The class of an operation record (R31). -/
def OpKind.isWrite : OpKind → Bool
  | .slot k => k.isWrite
  | .fill => false

/-- The error statuses (Terms). -/
def Status.isError : Status → Bool
  | .ok | .flushed => false
  | .denied | .notEnabled | .flashFail | .timeout | .mismatch => true

/-- The port an operation was issued for (R31). -/
def Source.port : Source → Port
  | .queue p _ => p
  | .fill p => p

/-- The bytes a slot's operation touches (R31, R60): its bytes, or its 4 KiB sector or 64 KiB block. -/
def SlotOp.range (op : SlotOp) : Range :=
  match op.kind with
  | .eraseSector => { first := op.addr, length := 4096 }
  | .eraseBlock => { first := op.addr, length := 65536 }
  | .read | .verify | .program => { first := op.addr, length := (op.transfer.map Transfer.length).getD 0 }

/-- The buffer a slot names, if any. -/
def SlotOp.buffer (op : SlotOp) : Option (Fin 16) := op.transfer.map Transfer.buffer

/-- An address lies in a range. -/
def Range.contains (r : Range) (a : Nat) : Bool := r.first ≤ a && a < r.first + r.length

/-- Two ranges have at least one address in common. -/
def Range.overlaps (r t : Range) : Bool :=
  0 < r.length && 0 < t.length && r.first < t.first + t.length && t.first < r.first + r.length

/-! ### Rings -/

/-- The slot is FREE. -/
def Slot.isFree : Slot → Bool
  | .free => true
  | _ => false

/-- The slot is QUEUED. -/
def Slot.isQueued : Slot → Bool
  | .queued _ => true
  | _ => false

/-- The slot is ACTIVE. -/
def Slot.isActive : Slot → Bool
  | .active _ => true
  | _ => false

/-- The slot is DONE. -/
def Slot.isDone : Slot → Bool
  | .done _ _ => true
  | _ => false

/-- The operation of a slot that is QUEUED or ACTIVE, that is, not yet complete. -/
def Slot.waiting : Slot → Option SlotOp
  | .queued op | .active op => some op
  | .free | .done _ _ => none

/-- How many slots of the ring satisfy a test. -/
def Queue.count (q : Queue) (f : Slot → Bool) : Nat := (List.finRange 8).countP fun n => f q.slots[n]

/-- Some slot of the ring is ACTIVE. -/
def Queue.hasActive (q : Queue) : Bool := (List.finRange 8).any fun n => q.slots[n].isActive

/-- Some slot of the ring is QUEUED or ACTIVE. -/
def Queue.hasWaiting (q : Queue) : Bool := (List.finRange 8).any fun n => q.slots[n].waiting.isSome

/-- All 8 slots are not FREE (R5). -/
def Queue.isFull (q : Queue) : Bool := (List.finRange 8).all fun n => !q.slots[n].isFree

/-- Replace slot `n`. -/
def Queue.setSlot (q : Queue) (n : Fin 8) (x : Slot) : Queue := { q with slots := q.slots.set n x }

/-- The head that the queue offers as a candidate (R14, R60): the slot at the start index is QUEUED, the queue is RUNNING
and no slot of the ring is ACTIVE. -/
def Queue.head (q : Queue) : Option SlotOp :=
  if q.state = .running && !q.hasActive then
    match q.slots[q.start] with
    | .queued op => some op
    | .free | .active _ | .done _ _ => none
  else none

/-! ### Buffer pool -/

/-- The holder of buffer `b`. -/
def State.holder (s : State) (b : Fin 16) : Holder := s.pool.holders[b]

/-- Set the holder of buffer `b`. -/
def State.setHolder (s : State) (b : Fin 16) (h : Holder) : State :=
  { s with pool := { s.pool with holders := s.pool.holders.set b h } }

/-- Byte `i` of buffer `b`. -/
def State.bufferByte (s : State) (b : Fin 16) (i : Fin 256) : Byte := s.pool.bytes[b][i]

/-- Replace the 256 bytes of buffer `b`. -/
def State.setBuffer (s : State) (b : Fin 16) (v : Vector Byte 256) : State :=
  { s with pool := { s.pool with bytes := s.pool.bytes.set b v } }

/-- A buffer with bytes 0 to data.length − 1 replaced (R33). -/
def fillBuffer (old : Vector Byte 256) (data : List Byte) : Vector Byte 256 :=
  Vector.ofFn fun i => (data[i.val]?).getD old[i]

/-- The buffer is held by, or lent to a slot of, port `p`. -/
def Holder.chargedTo (p : Port) : Holder → Bool
  | .free | .lentOrphan => false
  | .port q => q = p
  | .lentSlot q _ => q = p

/-- The charge of port `p` (R84). -/
def State.charge (s : State) (p : Port) : Nat := (List.finRange 16).countP fun b => (s.holder b).chargedTo p

/-- The buffer a window byte names: 0 to 15, and none for 16 to 255 (R87). -/
def bufferNamed (v : Byte) : Option (Fin 16) := if h : v.toNat < 16 then some ⟨v.toNat, h⟩ else none

/-- The buffer that port `p` reaches through its window, if it holds the one BUFSEL names (R92). -/
def State.reachable (s : State) (p : Port) : Option (Fin 16) :=
  match bufferNamed (s.port p).bufSel with
  | some b => if s.holder b = .port p then some b else none
  | none => none

/-! ### Accesses -/

/-- An access of port `p` is taken: the part is not in power-on reset (R184), the port is not in reset (R183), and its bus
is not held by a stalled read, during which it carries no other access (R108; assumption 4). -/
def State.accessTaken (s : State) (p : Port) : Bool :=
  !s.powerOnReset && !(s.port p).inReset && !(s.aperture p).stalled

/-- An access of port `p` that is taken has its effect; any other changes nothing. -/
def State.access (s : State) (p : Port) (f : State → State) : State := if s.accessTaken p then f s else s

/-- A command of port `p` (R177): its effect and its outcome in RESULT, in one event. -/
def State.command (s : State) (p : Port) (f : State → State × Result) : State :=
  s.access p fun t => (f t).1.setResult p (f t).2

/-- A refusal: nothing changes but RESULT (R178). -/
def refuse (r : Result) (s : State) : State × Result := (s, r)

/-- An accepted command. -/
def accept (s : State) : State × Result := (s, .accepted)

/-! ### Timers -/

/-- The REFCLK cycles of a number of µs. -/
def cyclesOfMicroseconds (n : Nat) : Nat := n * Config.cyclesPerMicrosecond

/-- A timer started with an interval in µs. -/
def startTimer (n : Nat) : Timer := some (cyclesOfMicroseconds n)

end Sys2Proof.Machine
end

