-- ==== Sys2Proof/Machine/Operands.lean ====
section
/-! DEFINITION. The operands that commands take from the window and from the profile: kind codes, the composer, the
profile fields with their units (R147) and validity (R152), the rights bytes, the staging records, and the codes under
which the window shows each field. -/

namespace Sys2Proof.Machine

/-! ### Profile fields -/

/-- The fields of a profile in the order of their offsets (R147 and the configuration index space). -/
inductive ProfileField where
  | capacityCode | sckDivider
  | readOp | writeEnableOp | pageProgramOp | sectorEraseOp | blockEraseOp | readStatusOp
  | suspendOp | resumeOp | resetEnableOp | resetDeviceOp
  | busyBit | latchBit | suspendedBit | errorMask
  | suspendSupported | maxSuspends
  | programTimeout | sectorTimeout | blockTimeout
  | pollInterval | suspendLatency | minRun | maxDwell | recoveryDelay
  | maxHold | quotaA | quotaB
  deriving DecidableEq, Repr

/-- The offset of a field within profile staging or view. -/
def ProfileField.offset : ProfileField → Fin 29
  | .capacityCode => 0x00
  | .sckDivider => 0x01
  | .readOp => 0x02
  | .writeEnableOp => 0x03
  | .pageProgramOp => 0x04
  | .sectorEraseOp => 0x05
  | .blockEraseOp => 0x06
  | .readStatusOp => 0x07
  | .suspendOp => 0x08
  | .resumeOp => 0x09
  | .resetEnableOp => 0x0A
  | .resetDeviceOp => 0x0B
  | .busyBit => 0x0C
  | .latchBit => 0x0D
  | .suspendedBit => 0x0E
  | .errorMask => 0x0F
  | .suspendSupported => 0x10
  | .maxSuspends => 0x11
  | .programTimeout => 0x12
  | .sectorTimeout => 0x13
  | .blockTimeout => 0x14
  | .pollInterval => 0x15
  | .suspendLatency => 0x16
  | .minRun => 0x17
  | .maxDwell => 0x18
  | .recoveryDelay => 0x19
  | .maxHold => 0x1A
  | .quotaA => 0x1B
  | .quotaB => 0x1C

/-- One field of a profile. -/
def Profile.field (p : Profile) (f : ProfileField) : Byte := p[f.offset]

/-- One field of a profile as a number. -/
def Profile.num (p : Profile) (f : ProfileField) : Nat := (p.field f).toNat

/-- The capacity in bytes: codes 1 to 5 are 1, 2, 4, 8 and 16 MiB (R147). -/
def Profile.capacity (p : Profile) : Nat := 2 ^ (p.num .capacityCode + 19)

/-- REFCLK cycles in one FSCK period: 16, 8, 4 or 2 MHz from 32 MHz (R27). -/
def Profile.cyclesPerBit (p : Profile) : Nat := 2 ^ (p.num .sckDivider + 1)

/-- The timeout of a write-class kind in µs (R39, R147); the read kinds have none and answer 0. -/
def Profile.timeout (p : Profile) : Kind → Nat
  | .program => p.num .programTimeout * 1000
  | .eraseSector => p.num .sectorTimeout * 10000
  | .eraseBlock => p.num .blockTimeout * 100000
  | .read | .verify => 0

/-- The status poll interval in µs. -/
def Profile.pollMicros (p : Profile) : Nat := p.num .pollInterval * 8

/-- The suspend latency in µs. -/
def Profile.latencyMicros (p : Profile) : Nat := p.num .suspendLatency

/-- The minimum run before suspend in µs. -/
def Profile.minRunMicros (p : Profile) : Nat := p.num .minRun * 50

/-- The maximum suspended dwell in µs. -/
def Profile.dwellMicros (p : Profile) : Nat := p.num .maxDwell * 100

/-- The recovery delay in µs. -/
def Profile.recoveryMicros (p : Profile) : Nat := p.num .recoveryDelay * 10

/-- The buffer quota of a port. -/
def Profile.quota (p : Profile) : Port → Nat
  | .A => p.num .quotaA
  | .B => p.num .quotaB

/-- The status bit at a position named in the profile: positions 0 to 7 name a bit, 0xFF names none (R28). -/
def statusBit (status : Byte) (position : Byte) : Bool := status.getLsbD position.toNat

/-- The profile names the write-enable-latch bit. -/
def Profile.namesLatch (p : Profile) : Bool := p.field .latchBit ≠ 0xFF

/-- The profile names the suspended-indication bit. -/
def Profile.namesSuspended (p : Profile) : Bool := p.field .suspendedBit ≠ 0xFF

/-- The device is busy (R28). -/
def Profile.busy (p : Profile) (status : Byte) : Bool := statusBit status (p.field .busyBit)

/-- The write-enable latch is set (R28). -/
def Profile.latchSet (p : Profile) (status : Byte) : Bool := statusBit status (p.field .latchBit)

/-- The device indicates suspension (R28). -/
def Profile.indicatesSuspension (p : Profile) (status : Byte) : Bool := statusBit status (p.field .suspendedBit)

/-- The device reports an error (R28). -/
def Profile.reportsError (p : Profile) (status : Byte) : Bool := status &&& p.field .errorMask ≠ 0

/-- The value of a field lies between two bounds. -/
def Profile.within (p : Profile) (f : ProfileField) (lo hi : Nat) : Bool := lo ≤ p.num f && p.num f ≤ hi

/-- A bit position that may be absent: 0 to 7, or 0xFF. -/
def Profile.optionalPosition (p : Profile) (f : ProfileField) : Bool := p.num f ≤ 7 || p.num f = 0xFF

/-- The field ranges of R147. -/
def Profile.rangesValid (p : Profile) : Bool :=
  p.within .capacityCode 1 5 && p.within .sckDivider 0 3
  && [ProfileField.readOp, .writeEnableOp, .pageProgramOp, .sectorEraseOp, .blockEraseOp, .readStatusOp,
      .resetDeviceOp].all (fun f => p.within f 1 255)
  && p.within .busyBit 0 7 && p.optionalPosition .latchBit && p.optionalPosition .suspendedBit
  && p.within .suspendSupported 0 1 && p.within .maxSuspends 0 15 && p.within .programTimeout 1 63
  && [ProfileField.sectorTimeout, .blockTimeout, .pollInterval, .suspendLatency, .minRun, .maxDwell, .recoveryDelay,
      .maxHold].all (fun f => p.within f 1 255)
  && p.within .quotaA 1 16 && p.within .quotaB 1 16

/-- With suspend supported both the SUSPEND and the RESUME opcode are present (R152). -/
def Profile.suspendOpcodesValid (p : Profile) : Bool :=
  p.num .suspendSupported ≠ 1 || (p.num .suspendOp ≠ 0 && p.num .resumeOp ≠ 0)

/-- The named bit positions are distinct (R152). -/
def Profile.positionsDistinct (p : Profile) : Bool :=
  (!p.namesLatch || p.num .latchBit ≠ p.num .busyBit)
  && (!p.namesSuspended || p.num .suspendedBit ≠ p.num .busyBit)
  && (!p.namesLatch || !p.namesSuspended || p.num .latchBit ≠ p.num .suspendedBit)

/-- A staging record that COMMIT_PROFILE accepts (R152). -/
def Profile.valid (p : Profile) : Bool := p.rangesValid && p.suspendOpcodesValid && p.positionsDistinct

/-- The committed profile.  While none is committed no rule reads one but for the quotas; the all-zero record stands in. -/
def State.prof (s : State) : Profile := s.profile.committed.getD (Vector.replicate 29 0)

/-- The capacity of the committed profile. -/
def State.capacity (s : State) : Nat := s.prof.capacity

/-- The buffer quota of a port: the committed profile's, and 8 before the first commit (R84, R156). -/
def State.quota (s : State) (p : Port) : Nat :=
  match s.profile.committed with
  | some prof => prof.quota p
  | none => 8

/-! ### The composer -/

/-- The KIND codes (R3). -/
def Kind.ofCode (v : Byte) : Option Kind :=
  match v.toNat with
  | 1 => some .read
  | 2 => some .verify
  | 3 => some .program
  | 4 => some .eraseSector
  | 5 => some .eraseBlock
  | _ => none

/-- The code of a kind in KIND and CKIND. -/
def Kind.code : Kind → Byte
  | .read => 1
  | .verify => 2
  | .program => 3
  | .eraseSector => 4
  | .eraseBlock => 5

/-- LEN 0 encodes 256 (R3). -/
def lengthOf (v : Byte) : Nat := if v = 0 then 256 else v.toNat

/-- The operation of a READ, VERIFY or PROGRAM composer whose bytes lie below capacity (R6). -/
def Composer.transferOp (c : Composer) (kind : Kind) (capacity : Nat) : Option SlotOp :=
  match bufferNamed c.buf with
  | some b =>
    if c.addr.toNat < capacity && c.addr.toNat + lengthOf c.len ≤ capacity then
      some { kind := kind, tag := c.tag, addr := c.addr.toNat, transfer := some { length := lengthOf c.len, buffer := b } }
    else none
  | none => none

/-- The operation of an erase composer whose address is aligned to the unit and below capacity (R6); LEN and BUF are not
examined and not copied. -/
def Composer.eraseOp (c : Composer) (kind : Kind) (unit capacity : Nat) : Option SlotOp :=
  if c.addr.toNat < capacity && c.addr.toNat % unit = 0 then
    some { kind := kind, tag := c.tag, addr := c.addr.toNat, transfer := none }
  else none

/-- The operation that the composer describes when it is legal (R6). -/
def Composer.operation (c : Composer) (capacity : Nat) : Option SlotOp :=
  match Kind.ofCode c.kind with
  | some .read => c.transferOp .read capacity
  | some .verify => c.transferOp .verify capacity
  | some .program => if c.addr.toNat % 256 + lengthOf c.len ≤ 256 then c.transferOp .program capacity else none
  | some .eraseSector => c.eraseOp .eraseSector 4096 capacity
  | some .eraseBlock => c.eraseOp .eraseBlock 65536 capacity
  | none => none

/-! ### Byte-wise access to a multi-byte field -/

/-- A 24-bit field with byte `i` replaced, least significant byte first (R176). -/
def setByte24 (x : BitVec 24) (i : Fin 3) (v : Byte) : BitVec 24 :=
  match i with
  | 0 => (x &&& 0xFFFF00#24) ||| v.setWidth 24
  | 1 => (x &&& 0xFF00FF#24) ||| (v.setWidth 24 <<< 8)
  | 2 => (x &&& 0x00FFFF#24) ||| (v.setWidth 24 <<< 16)

/-- Byte `i` of a field, least significant first. -/
def byteOf {w : Nat} (x : BitVec w) (i : Nat) : Byte := (x >>> (8 * i)).setWidth 8

/-! ### Rights and staging records -/

/-- The three rights (R115). -/
inductive Right where
  | read | program | erase
  deriving DecidableEq, Repr

/-- The bit of a right in a rights set. -/
def Right.bit : Right → Nat
  | .read => 0
  | .program => 1
  | .erase => 2

/-- A rights set holds a right. -/
def hasRight (rights : BitVec 3) (r : Right) : Bool := rights.getLsbD r.bit

/-- The right that a kind needs (R70). -/
def Kind.right : Kind → Right
  | .read | .verify => .read
  | .program => .program
  | .eraseSector | .eraseBlock => .erase

/-- The rights of a port in an entry. -/
def RegionEntry.rights (e : RegionEntry) : Port → BitVec 3
  | .A => e.rightsA
  | .B => e.rightsB

/-- The rights of a port in the defaults record. -/
def DefaultsRecord.rights (d : DefaultsRecord) : Port → BitVec 3
  | .A => d.rightsA
  | .B => d.rightsB

/-- An entry covers a sector (R115). -/
def RegionEntry.covers (e : RegionEntry) (sector : Nat) : Bool :=
  e.valid && e.first.toNat ≤ sector && sector ≤ e.last.toNat

/-- The staged target index. -/
def RegionTable.stagedTarget (t : RegionTable) : Nat := t.staging[0].toNat

/-- The staged first sector, 16 bits. -/
def RegionTable.stagedFirst (t : RegionTable) : BitVec 16 := t.staging[3] ++ t.staging[2]

/-- The staged last sector, 16 bits. -/
def RegionTable.stagedLast (t : RegionTable) : BitVec 16 := t.staging[5] ++ t.staging[4]

/-- Step 2 of COMMIT_REGION (R122) finds nothing illegal. -/
def RegionTable.stagingValid (t : RegionTable) : Bool :=
  t.stagedTarget ≤ 15 && t.stagedFirst.toNat ≤ 4095 && t.stagedLast.toNat ≤ 4095
  && t.stagedFirst.toNat ≤ t.stagedLast.toNat

/-- The entry that the region staging record describes: only the three rights, bit 0 valid and bit 1 lock are taken (R122). -/
def RegionTable.stagedEntry (t : RegionTable) : RegionEntry :=
  { valid := t.staging[1].getLsbD 0
    first := t.stagedFirst.setWidth 12
    last := t.stagedLast.setWidth 12
    rightsA := t.staging[6].setWidth 3
    rightsB := t.staging[7].setWidth 3
    locked := t.staging[1].getLsbD 1 }

/-- The defaults record that the defaults staging record describes (R123). -/
def RegionTable.stagedDefaults (t : RegionTable) : DefaultsRecord :=
  { rightsA := t.defaultsStaging[0].setWidth 3
    rightsB := t.defaultsStaging[1].setWidth 3
    locked := t.defaultsStaging[2].getLsbD 0 }

/-! ### The configuration index space -/

/-- What a configuration index names (the table of the configuration index space). -/
inductive CfgIndex where
  | profileStaging (i : Fin 29)
  | regionStaging (i : Fin 8)
  | defaultsStaging (i : Fin 3)
  | profileView (i : Fin 29)
  | defaultsView (i : Fin 3)
  | entryView (n : Fin 16) (i : Fin 8)
  | unassigned
  deriving DecidableEq, Repr

/-- The position a configuration index names. -/
def CfgIndex.ofByte (x : Byte) : CfgIndex :=
  let v := x.toNat
  if v ≤ 0x1C then .profileStaging (Fin.ofNat 29 v)
  else if 0x20 ≤ v && v ≤ 0x27 then .regionStaging (Fin.ofNat 8 (v - 0x20))
  else if 0x28 ≤ v && v ≤ 0x2A then .defaultsStaging (Fin.ofNat 3 (v - 0x28))
  else if 0x40 ≤ v && v ≤ 0x5C then .profileView (Fin.ofNat 29 (v - 0x40))
  else if 0x78 ≤ v && v ≤ 0x7A then .defaultsView (Fin.ofNat 3 (v - 0x78))
  else if 0x80 ≤ v then .entryView (Fin.ofNat 16 ((v - 0x80) / 8)) (Fin.ofNat 8 (v - 0x80))
  else .unassigned

/-- The index is a staging index, whose writes need the configuration authority (R187). -/
def CfgIndex.isStaging : CfgIndex → Bool
  | .profileStaging _ | .regionStaging _ | .defaultsStaging _ => true
  | .profileView _ | .defaultsView _ | .entryView _ _ | .unassigned => false

/-- A flag as a bit of a byte. -/
def flagByte (b : Bool) (position : Nat) : Byte := if b then 1#8 <<< position else 0

/-- Byte `i` of the committed view of entry `n` (R127). -/
def RegionEntry.viewByte (e : RegionEntry) (n : Fin 16) (i : Fin 8) : Byte :=
  match i with
  | 0 => BitVec.ofNat 8 n.val
  | 1 => flagByte e.valid 0 ||| flagByte e.locked 1
  | 2 => byteOf e.first 0
  | 3 => byteOf e.first 1
  | 4 => byteOf e.last 0
  | 5 => byteOf e.last 1
  | 6 => e.rightsA.setWidth 8
  | 7 => e.rightsB.setWidth 8

/-- Byte `i` of the committed view of the defaults record (R127). -/
def DefaultsRecord.viewByte (d : DefaultsRecord) (i : Fin 3) : Byte :=
  match i with
  | 0 => d.rightsA.setWidth 8
  | 1 => d.rightsB.setWidth 8
  | 2 => flagByte d.locked 0

/-- Field `i` of the committed profile view; while UNCONFIGURED 0x00, and 8 at the two quotas (R150). -/
def State.profileViewByte (s : State) (i : Fin 29) : Byte :=
  match s.profile.committed with
  | some prof => prof[i]
  | none => if 0x1B ≤ i.val then 8 else 0

/-- The byte at a configuration index (R187). -/
def State.cfgByte (s : State) (x : Byte) : Byte :=
  match CfgIndex.ofByte x with
  | .profileStaging i => s.profile.staging[i]
  | .regionStaging i => s.regions.staging[i]
  | .defaultsStaging i => s.regions.defaultsStaging[i]
  | .profileView i => s.profileViewByte i
  | .defaultsView i => s.regions.defaults.viewByte i
  | .entryView n i => s.regions.entries[n].viewByte n i
  | .unassigned => 0

/-- Store a byte at a staging index (R120, R149); every other index is left as it is. -/
def State.setStaging (s : State) (x : Byte) (v : Byte) : State :=
  match CfgIndex.ofByte x with
  | .profileStaging i => { s with profile := { s.profile with staging := s.profile.staging.set i v } }
  | .regionStaging i => { s with regions := { s.regions with staging := s.regions.staging.set i v } }
  | .defaultsStaging i => { s with regions := { s.regions with defaultsStaging := s.regions.defaultsStaging.set i v } }
  | .profileView _ | .defaultsView _ | .entryView _ _ | .unassigned => s

/-- Clear the three staging records (R121, R149). -/
def State.clearStaging (s : State) : State :=
  { s with
    profile := { s.profile with staging := Vector.replicate 29 0 }
    regions := { s.regions with staging := Vector.replicate 8 0, defaultsStaging := Vector.replicate 3 0 } }

/-! ### Codes shown in the window -/

/-- The result codes (Command and result codes). -/
def Result.code : Result → Byte
  | .none => 0x00
  | .accepted => 0x01
  | .refusedState => 0x10
  | .refusedFull => 0x11
  | .refusedEmpty => 0x12
  | .refusedInvalid => 0x13
  | .refusedOwner => 0x14
  | .refusedNoBuffer => 0x15
  | .refusedQuota => 0x16
  | .refusedBusy => 0x17
  | .refusedLocked => 0x18
  | .refusedAuthority => 0x19

/-- CSTATUS (Field encodings). -/
def Status.code : Status → Byte
  | .ok => 1
  | .denied => 2
  | .notEnabled => 3
  | .flashFail => 4
  | .timeout => 5
  | .mismatch => 6
  | .flushed => 7

/-- APCAUSE (Field encodings). -/
def ApCause.code : ApCause → Byte
  | .none => 0
  | .underrun => 1
  | .stallExpired => 2
  | .denied => 3
  | .ended => 4
  | .closedByCommit => 5

/-- HOLDCAUSE (Field encodings). -/
def HoldCause.code : HoldCause → Byte
  | .none => 0
  | .granted => 1
  | .expired => 2

/-- RECCAUSE (Field encodings). -/
def RecCause.code : RecCause → Byte
  | .none => 0
  | .ok => 1
  | .failed => 2

/-- PSTAT bits 1:0. -/
def QueueState.code : QueueState → Byte
  | .stopped => 0
  | .running => 1
  | .stopping => 2
  | .halted => 3

/-- PSTAT bits 3:2, before their shift. -/
def ApertureState.code : ApertureState → Byte
  | .closed => 0
  | .opened => 1
  | .denied => 2
  | .ended => 3

/-- PSTAT bits 5:4, before their shift. -/
def HoldState.code : HoldState → Byte
  | .none => 0
  | .pending => 1
  | .held => 2

/-- SEQSTAT bits 3:0. -/
def SeqState.code : SeqState → Byte
  | .offline => 0
  | .initializing => 1
  | .idle => 2
  | .reading => 3
  | .writing => 4
  | .busyWait => 5
  | .suspending => 6
  | .resuming => 7
  | .fault => 8
  | .recovering => 9

end Sys2Proof.Machine
end

