-- ==== Sys2Proof/Machine/Flags.lean ====
section
/-! DEFINITION. What the event units do with notices: flags, causes, INT#, completion coalescing and counters. -/

namespace Sys2Proof.Machine

/-- The nine event flags (R161). -/
inductive Flag where
  | done | halt | aperture | hold | fault | recovery | peerReset | bufferFreed | config
  deriving DecidableEq, Repr

/-- The bit of a flag in EVFLAGS and EVENABLE. -/
def Flag.bit : Flag → Nat
  | .done => 0
  | .halt => 1
  | .aperture => 2
  | .hold => 3
  | .fault => 4
  | .recovery => 5
  | .peerReset => 6
  | .bufferFreed => 7
  | .config => 8

/-- A flag of an event unit is set. -/
def EventUnit.has (e : EventUnit) (f : Flag) : Bool := e.flags.getLsbD f.bit

/-- Set a flag; a flag already set stays set (R161). -/
def EventUnit.raise (f : Flag) (e : EventUnit) : EventUnit := { e with flags := e.flags ||| (1#9 <<< f.bit) }

/-- INT# of a port is driven low while a flag is set whose enable is set (R163). -/
def EventUnit.intAsserted (e : EventUnit) : Bool := e.flags &&& e.enables ≠ 0

/-- Give a notice to port `p`'s event unit.  While the port is in reset its event unit takes none (R173). -/
def State.notify (s : State) (p : Port) (f : EventUnit → EventUnit) : State :=
  if (s.port p).inReset then s else s.modPort p fun x => { x with events := f x.events }

/-- Set a flag of port `p`. -/
def State.raise (s : State) (p : Port) (f : Flag) : State := s.notify p (EventUnit.raise f)

/-- Set a flag of both ports (R165). -/
def State.raiseBoth (s : State) (f : Flag) : State := (s.raise .A f).raise .B f

/-- An aperture cause: APCAUSE takes it and APERTURE is set (R107, R164). -/
def State.apertureCause (s : State) (p : Port) (c : ApCause) : State :=
  s.notify p fun e => EventUnit.raise .aperture { e with apCause := c }

/-- A hold cause: HOLDCAUSE takes it and HOLD is set (R136, R138). -/
def State.holdCause (s : State) (p : Port) (c : HoldCause) : State :=
  s.notify p fun e => EventUnit.raise .hold { e with holdCause := c }

/-- The end of a recovery: RECCAUSE and RECOVERY in both ports (R55). -/
def State.recoveryCause (s : State) (c : RecCause) : State :=
  let note := fun e : EventUnit => EventUnit.raise .recovery { e with recCause := c }
  (s.notify .A note).notify .B note

/-- Counters saturate at 255 (R169). -/
def saturatingInc (c : Byte) : Byte := if c = 255 then 255 else c + 1

/-- ERRCNT of port `p` increases by one (R169). -/
def State.countError (s : State) (p : Port) : State := s.notify p fun e => { e with errCnt := saturatingInc e.errCnt }

/-- DENYCNT of port `p` increases by one (R169). -/
def State.countDenial (s : State) (p : Port) : State := s.notify p fun e => { e with denyCnt := saturatingInc e.denyCnt }

/-- SUSPCNT increases by one (R170). -/
def State.countSuspension (s : State) : State :=
  { s with counters := { s.counters with suspCnt := saturatingInc s.counters.suspCnt } }

/-- TOCNT increases by one (R170). -/
def State.countTimeout (s : State) : State :=
  { s with counters := { s.counters with toCnt := saturatingInc s.counters.toCnt } }

/-- RECFAIL increases by one (R170). -/
def State.countRecoveryFailure (s : State) : State :=
  { s with counters := { s.counters with recFail := saturatingInc s.counters.recFail } }

/-- A completion notice: DONE set, the pending count 0, the holdoff timer stopped (R167). -/
def EventUnit.completionNotice (e : EventUnit) : EventUnit :=
  EventUnit.raise .done { e with pendingCount := 0, holdoffTimer := none }

/-- `k` slots become DONE in one event: the pending count grows by k and the coalescing acts (R167). -/
def EventUnit.coalesce (k : Nat) (e : EventUnit) : EventUnit :=
  let e := { e with pendingCount := e.pendingCount + k }
  if e.holdoff = 0 || e.threshold.toNat ≤ e.pendingCount then e.completionNotice
  else if e.holdoffTimer.isSome then e
  else { e with holdoffTimer := startTimer (e.holdoff.toNat * 10) }

/-- `k` completions of port `p` reach its coalescing; none leave it as it is. -/
def State.countCompletions (s : State) (p : Port) (k : Nat) : State :=
  if k = 0 then s else s.notify p (EventUnit.coalesce k)

/-- A buffer has become FREE: port `p`'s claim-refused marker, if set, is cleared and BUFFER_FREED set (R86). -/
def State.noticeFreed (s : State) (p : Port) : State :=
  if (s.port p).claimRefused then (s.modPort p fun x => { x with claimRefused := false }).raise p .bufferFreed else s

/-- One or more buffers became FREE in this event: the notice goes to both ports (R86). -/
def State.buffersFreed (s : State) : State := (s.noticeFreed .A).noticeFreed .B

/-- A buffer becomes FREE, with its notice. -/
def State.freeBuffer (s : State) (b : Fin 16) : State := (s.setHolder b .free).buffersFreed

end Sys2Proof.Machine
end

