-- ==== Sys2Proof/Machine/BufferCommands.lean ====
section
/-! DEFINITION. The buffer pool's rows: CLAIM, RELEASE, BUFDATA_READ, BUFDATA_WRITE. -/

namespace Sys2Proof.Machine

/-- The lowest-numbered FREE buffer (R85). -/
def State.freeBuffer? (s : State) : Option (Fin 16) := (List.finRange 16).find? fun b => s.holder b = .free

/-- Port `p` receives buffer `b` filled with 0xFF; BUFSEL names it, BUFOFS is 0 and the marker is clear (R85). -/
def State.giveBuffer (s : State) (p : Port) (b : Fin 16) : State :=
  ((s.setHolder b (.port p)).setBuffer b (Vector.replicate 256 0xFF)).modPort p fun x =>
    { x with bufSel := BitVec.ofNat 8 b.val, bufOfs := 0, claimRefused := false }

/-- Set port `p`'s claim-refused marker (R86). -/
def State.markRefused (s : State) (p : Port) : State := s.modPort p fun x => { x with claimRefused := true }

/-- CLAIM, checked in the order of R85. -/
def claimBody (p : Port) (s : State) : State × Result :=
  if s.quota p ≤ s.charge p then (s.markRefused p, .refusedQuota)
  else
    match s.freeBuffer? with
    | none => (s.markRefused p, .refusedNoBuffer)
    | some b => accept (s.giveBuffer p b)

/-- RELEASE of the buffer named in BUFSEL (R87). -/
def releaseBody (p : Port) (s : State) : State × Result :=
  match bufferNamed (s.port p).bufSel with
  | none => refuse .refusedInvalid s
  | some b => if s.holder b = .port p then accept (s.freeBuffer b) else refuse .refusedOwner s

/-- BUFOFS advances by one, from 255 to 0 (R91). -/
def State.advanceBufOfs (s : State) (p : Port) : State := s.modPort p fun x => { x with bufOfs := x.bufOfs + 1 }

/-- A read of BUFDATA (R92). -/
def readBufdata (p : Port) (s : State) : State :=
  match s.reachable p with
  | some b => (s.drive p (some (s.bufferByte b (s.port p).bufOfs.toFin))).advanceBufOfs p
  | none => (s.drive p (some 0)).setResult p .refusedOwner

/-- A write of BUFDATA (R92). -/
def writeBufdata (p : Port) (v : Byte) (s : State) : State :=
  match s.reachable p with
  | some b => (s.setBuffer b ((s.pool.bytes[b]).set (s.port p).bufOfs.toNat v (s.port p).bufOfs.isLt)).advanceBufOfs p
  | none => s.setResult p .refusedOwner

/-- CLAIM. -/
def execClaim (p : Port) (s : State) : Host.Outcome State Fault Refusal := .next (s.command p (claimBody p))

/-- RELEASE. -/
def execRelease (p : Port) (s : State) : Host.Outcome State Fault Refusal := .next (s.command p (releaseBody p))

/-- BUFDATA_READ. -/
def execBufdataRead (p : Port) (s : State) : Host.Outcome State Fault Refusal := .next (s.access p (readBufdata p))

/-- BUFDATA_WRITE. -/
def execBufdataWrite (p : Port) (v : Byte) (s : State) : Host.Outcome State Fault Refusal :=
  .next (s.access p (writeBufdata p v))

end Sys2Proof.Machine
end

