-- ==== Sys2Proof/Machine/Time.lean ====
section
/-! DEFINITION. How time passes: the accumulators of R41 and R48, the running timers and the line, all in REFCLK cycles. -/

namespace Sys2Proof.Machine

/-- A running timer after `d` cycles; an overdue timer stays at 0 until its expiry is taken. -/
def elapseTimer (d : Nat) (t : Timer) : Timer := t.map fun left => left - d

/-- Busy time and run time grow (R41). -/
def OpRecord.elapse (d : Nat) (r : OpRecord) : OpRecord :=
  { r with busyTime := r.busyTime + d, runTime := r.runTime + d }

/-- The transaction on the line moves towards its last bit. -/
def Line.elapse (d : Nat) : Line → Line
  | .idle => .idle
  | .called t => .called t
  | .onLine t left => .onLine t (left - d)

/-- The accumulators run in BUSYWAIT and SUSPENDING (R41). -/
def SeqState.accumulates : SeqState → Bool
  | .busyWait | .suspending => true
  | .offline | .initializing | .idle | .reading | .writing | .resuming | .fault | .recovering => false

/-- The sequencer after `d` cycles. -/
def Sequencer.elapse (d : Nat) (q : Sequencer) : Sequencer :=
  { q with
    active := if q.state.accumulates then q.active.map (OpRecord.elapse d) else q.active
    suspended := q.suspended.map fun x => { x with dwell := x.dwell + d }
    line := q.line.elapse d
    gap := q.gap - d
    pollTimer := elapseTimer d q.pollTimer
    latencyTimer := elapseTimer d q.latencyTimer
    dwellTimer := elapseTimer d q.dwellTimer
    recoveryTimer := elapseTimer d q.recoveryTimer }

/-- A port's stall timer and holdoff timer after `d` cycles. -/
def PortState.elapse (d : Nat) (x : PortState) : PortState :=
  { x with
    aperture := { x.aperture with stallTimer := elapseTimer d x.aperture.stallTimer }
    events := { x.events with holdoffTimer := elapseTimer d x.events.holdoffTimer } }

/-- The part after `d` REFCLK cycles in which nothing is taken.  Nothing but timers and time accumulators changes. -/
def State.elapse (s : State) (d : Nat) : State :=
  { s with
    ports := ⟨s.ports.a.elapse d, s.ports.b.elapse d⟩
    seq := s.seq.elapse d
    hold := { s.hold with timer := elapseTimer d s.hold.timer } }

/-! ### The line's timing (R27, R28) -/

/-- The bits of a transaction that moves `n` data bytes for the operation `kind` (R28). -/
def transactionBits (t : Transaction) (kind : OpKind) (n : Nat) : Nat :=
  match t with
  | .writeEnable | .suspend | .resume | .resetEnable | .resetDevice => 8
  | .writeEnableCheck | .poll | .handshake | .finalRead => 16
  | .read => 32 + 8 * n
  | .command =>
    match kind with
    | .slot .program => 32 + 8 * n
    | .slot .read | .slot .verify | .slot .eraseSector | .slot .eraseBlock | .fill => 32

/-- The REFCLK cycles that a transaction called for now lasts: its bit count at the FSCK of the committed profile. -/
def State.transactionCycles (s : State) (t : Transaction) : Nat :=
  match s.seq.active with
  | some r => transactionBits t r.kind r.range.length * s.prof.cyclesPerBit
  | none => transactionBits t .fill 0 * s.prof.cyclesPerBit

/-- The three address bytes of an operation, most significant first (R28). -/
def addressBytes (a : Nat) : List Byte :=
  let x := BitVec.ofNat 24 a
  [byteOf x 2, byteOf x 1, byteOf x 0]

/-- The bytes the part sends in a transaction (R28, R33, R37, R38). -/
def State.sentBytes (s : State) (t : Transaction) : List Byte :=
  let op := fun f => s.prof.field f
  match t with
  | .writeEnable => [op .writeEnableOp]
  | .suspend => [op .suspendOp]
  | .resume => [op .resumeOp]
  | .resetEnable => [op .resetEnableOp]
  | .resetDevice => [op .resetDeviceOp]
  | .writeEnableCheck | .poll | .handshake | .finalRead => [op .readStatusOp]
  | .read =>
    match s.seq.active with
    | some r => op .readOp :: addressBytes r.range.first
    | none => []
  | .command =>
    match s.seq.active with
    | some r =>
      match r.kind with
      | .slot .program =>
        op .pageProgramOp :: addressBytes r.range.first
          ++ (match r.buffer with
              | some b => (s.pool.bytes[b]).toList.take r.range.length
              | none => [])
      | .slot .eraseSector => op .sectorEraseOp :: addressBytes r.range.first
      | .slot .eraseBlock => op .blockEraseOp :: addressBytes r.range.first
      | .slot .read | .slot .verify | .fill => []
    | none => []

/-- The levels of the three flash line outputs (true is high). -/
structure LinePins where
  fcs : Bool
  fsck : Bool
  fmosi : Bool
  deriving DecidableEq, Repr

/-- The bits of a byte string as the line carries them, most significant bit of each byte first (R27). -/
def lineBits (bytes : List Byte) : List Bool :=
  bytes.flatMap fun b => (List.range 8).map fun i => b.getLsbD (7 - i)

/-- FCS#, FSCK and FMOSI (R27): idle is high, low, low; in a transaction each bit is presented while FSCK is low, which is
the first half of its FSCK period (assumption 12).  After the bytes sent FMOSI is low: for the data bytes of a read
transaction R28 says so; for the status byte of a status read the manual gives no level, and low is the model's choice
(assumption 25). -/
def State.linePins (s : State) : LinePins :=
  match s.seq.line with
  | .idle | .called _ => { fcs := true, fsck := false, fmosi := false }
  | .onLine t left =>
    let period := s.prof.cyclesPerBit
    let spent := s.transactionCycles t - left
    { fcs := false
      fsck := 2 * (spent % period) ≥ period
      fmosi := ((lineBits (s.sentBytes t))[spent / period]?).getD false }

end Sys2Proof.Machine
end

