-- ==== Sys2Proof/Machine/Completion.lean ====
section
/-! DEFINITION. What a completion does: the slot and the queue (R15 to R17), the hold that waits for it (R136), the orphan's
buffer (R26), and the arrival of a fill (R105). -/

namespace Sys2Proof.Machine

/-- The buffer a slot names passes from LENT back to its port (R89). -/
def State.returnBuffer (s : State) (p : Port) (op : SlotOp) : State :=
  match op.buffer with
  | some b => s.setHolder b (.port p)
  | none => s

/-- The queue state after a slot became DONE from ACTIVE, or from QUEUED by denial (R17). -/
def State.queueAfterCompletion (s : State) (p : Port) (status : Status) : State :=
  match (s.queue p).state with
  | .running =>
    if status.isError && (s.queue p).haltOnError then
      (s.modQueue p fun q => { q with state := .halted }).raise p .halt
    else s
  | .stopping => s.modQueue p fun q => { q with state := .stopped }
  | .stopped | .halted => s

/-- Slot `n` of port `p`, not yet complete, becomes DONE: its completion part is written, its buffer returns, the completion
is counted, an error status is counted, and the queue state follows (R15, R16, R17). -/
def State.finishSlot (s : State) (p : Port) (n : Fin 8) (c : Completion) : State :=
  match (s.queue p).slots[n].waiting with
  | none => s
  | some op =>
    let s1 := (s.modQueue p fun q => q.setSlot n (.done op c)).returnBuffer p op
    let s2 := s1.countCompletions p 1
    let s3 := if c.status.isError then s2.countError p else s2
    s3.queueAfterCompletion p c.status

/-! ### The hold's side of a completion -/

/-- The drain set of a hold of port `p` is empty: no operation issued for its peer is in either record (R135). -/
def State.drained (s : State) (p : Port) : Bool :=
  (s.seq.active.all fun r => r.source.port ≠ p.peer) && (s.seq.suspended.all fun x => x.op.source.port ≠ p.peer)

/-- Port `p` becomes HELD: the timer starts with the recorded duration, cause GRANTED (R136). -/
def State.grantHold (s : State) (p : Port) : State :=
  ((s.setHold p .held).setHoldTimer (startTimer (s.hold.duration.toNat * 1000))).holdCause p .granted

/-- The notice that an operation issued for port `p` has left the flash: a hold pending on the peer of `p` is granted when
its drain set is now empty (R50, R136). -/
def State.holdNotice (s : State) (p : Port) : State :=
  if s.holdOf p.peer = .pending && s.drained p.peer then s.grantHold p.peer else s

/-! ### Hand-over -/

/-- The active record is removed (R50). -/
def State.removeActive (s : State) : State := s.modSeq fun q => { q with active := none }

/-- The result of an operation reaches the slot named by its source, or, for an orphan, frees its buffer (R26, R50). -/
def State.handOver (s : State) (r : OpRecord) (status : Status) (detail : Byte) : State :=
  if r.orphan then
    match r.buffer with
    | some b => s.freeBuffer b
    | none => s
  else
    match r.source with
    | .queue p n => s.finishSlot p n { status := status, detail := detail, suspends := r.suspends }
    | .fill _ => s

/-- The operation of the active record `r` completes: its result is handed over, the record removed, and the hold unit
given notice (R50).  The sequencer's next state is the caller's. -/
def State.complete (s : State) (r : OpRecord) (status : Status) (detail : Byte) : State :=
  (s.removeActive.handOver r status detail).holdNotice r.source.port

/-! ### Stalls and fill arrival -/

/-- A stall ends: RDY is released, the marker cleared, the stall timer stopped, and the data lines driven with what the
event hands the port (R108, R179). -/
def State.endStall (s : State) (p : Port) (d : Option Byte) : State :=
  (s.modAperture p fun a => { a with stalled := false, stallTimer := none }).drive p d

/-- An OPEN aperture whose FIFO is empty and whose fetch address equals capacity enters END (R106). -/
def Aperture.endAtCapacity (capacity : Nat) (a : Aperture) : Aperture :=
  if a.state = .opened && a.fifo.isEmpty && a.fetch = capacity then { a with state := .ended } else a

/-- A fill arrival (R105): a stale one only clears the fill-in-flight marker; a current one gives its first byte to a stalled
read and the rest to the FIFO. -/
def State.fillArrival (s : State) (p : Port) (generation : Option (BitVec 16)) (data : List Byte) : State :=
  let a := s.aperture p
  if generation = some a.generation && a.state = .opened then
    match a.stalled, data with
    | true, d :: rest =>
      (s.endStall p (some d)).modAperture p fun x =>
        Aperture.endAtCapacity s.capacity
          { x with inFlight := false, current := x.current + 1, fifo := x.fifo ++ rest, fetch := x.fetch + data.length }
    | _, _ =>
      s.modAperture p fun x =>
        Aperture.endAtCapacity s.capacity
          { x with inFlight := false, fifo := x.fifo ++ data, fetch := x.fetch + data.length }
  else s.modAperture p fun x => { x with inFlight := false }

end Sys2Proof.Machine
end

