-- ==== Sys2Proof/Machine/Arbiter.lean ====
section
/-! DEFINITION. The arbiter and the start check: candidates and eligibility (R60 to R66), the grant order (R67 to R69), the
lookup (R117, R118), grants and denials (R70 to R73), purges (R110) and suspend requests (R74 to R76). -/

namespace Sys2Proof.Machine

/-! ### The region lookup -/

/-- The valid entry with the lowest index that covers a sector; none when the defaults record decides (R117). -/
def RegionTable.decider (t : RegionTable) (sector : Nat) : Option (Fin 16) :=
  (List.finRange 16).find? fun i => t.entries[i].covers sector

/-- The rights of a port in a sector (R117). -/
def RegionTable.rightsAt (t : RegionTable) (p : Port) (sector : Nat) : BitVec 3 :=
  match t.decider sector with
  | some i => t.entries[i].rights p
  | none => t.defaults.rights p

/-- The number under which the record that decides a sector is reported: an entry's index, 16 for the defaults (R118). -/
def RegionTable.deciderNumber (t : RegionTable) (sector : Nat) : Nat :=
  match t.decider sector with
  | some i => i.val
  | none => 16

/-- The sectors of a range, lowest first (R118). -/
def Range.sectors (r : Range) : List Nat :=
  List.range' (r.first / 4096) ((r.first + r.length - 1) / 4096 - r.first / 4096 + 1)

/-- The start check (R70, R118): none when every sector grants the right, else the denial detail, the record that decided
the lowest-numbered failing sector. -/
def State.startCheck (s : State) (p : Port) (right : Right) (r : Range) : Option Nat :=
  (r.sectors.find? fun x => !hasRight (s.regions.rightsAt p x) right).map s.regions.deciderNumber

/-! ### Candidates -/

/-- What the arbiter can grant: the resume, a port's fill, and a port's queue head by its class. -/
inductive Candidate where
  | resume
  | fill (p : Port)
  | readHead (p : Port)
  | writeHead (p : Port)
  deriving DecidableEq, Repr

/-- The peer's hold is PENDING or HELD (R63). -/
def State.blockedByHold (s : State) (p : Port) : Bool := s.holdOf p.peer ≠ .none

/-- The range of the suspended write-class operation. -/
def State.suspendedRange (s : State) : Option Range := s.seq.suspended.map fun x => x.op.range

/-- The range of the active write-class operation. -/
def State.activeWriteRange (s : State) : Option Range :=
  match s.seq.active with
  | some r => if r.kind.isWrite then some r.range else none
  | none => none

/-- A test holds of no active or suspended write-class range (R65). -/
def State.clearOfWrites (s : State) (f : Range → Bool) : Bool :=
  (s.activeWriteRange.all fun r => !f r) && (s.suspendedRange.all fun r => !f r)

/-- The fill of port `p` exists (R61). -/
def State.fillExists (s : State) (p : Port) : Bool :=
  (s.aperture p).state = .opened && (s.aperture p).fifo.length ≤ 8 && !(s.aperture p).inFlight
    && (s.aperture p).fetch < s.capacity

/-- The candidate exists and is eligible (R60 to R65). -/
def State.offers (s : State) : Candidate → Bool
  | .resume => s.seq.suspended.isSome
  | .fill p =>
    s.fillExists p && !s.blockedByHold p && s.clearOfWrites fun r => r.contains (s.aperture p).fetch
  | .readHead p =>
    match (s.queue p).head with
    | some op => !op.kind.isWrite && !s.blockedByHold p && s.clearOfWrites fun r => op.range.overlaps r
    | none => false
  | .writeHead p =>
    match (s.queue p).head with
    | some op => op.kind.isWrite && !s.blockedByHold p && s.seq.suspended.isNone
    | none => false

/-- The candidates in the grant order (R67 to R69); a stalled port's fill stands at step 2 as well as at step 3. -/
def State.grantOrder (s : State) : List Candidate :=
  let r := s.arbiter.readPointer
  let w := s.arbiter.writePointer
  (if s.arbiter.resumeDue then [Candidate.resume] else [])
    ++ ([r, r.peer].filter fun p => (s.aperture p).stalled).map Candidate.fill
    ++ [.fill r, .readHead r, .fill r.peer, .readHead r.peer]
    ++ [.resume]
    ++ [.writeHead w, .writeHead w.peer]

/-- The candidate that a grant point grants: the first eligible one in the grant order (R67). -/
def State.choose (s : State) : Option Candidate := s.grantOrder.find? s.offers

/-! ### Grants -/

/-- The length of port `p`'s fill if it were granted now (R66). -/
def State.fillLength (s : State) (p : Port) : Nat :=
  let f := (s.aperture p).fetch
  let room := 16 - (s.aperture p).fifo.length
  let sector := 4096 - f % 4096
  let untilCapacity := s.capacity - f
  let limit := min room (min sector untilCapacity)
  match s.suspendedRange with
  | some r => if f < r.first then min limit (r.first - f) else limit
  | none => limit

/-- The read alternation pointer moves to the peer of the port granted (R67). -/
def State.moveReadPointer (s : State) (p : Port) : State :=
  { s with arbiter := { s.arbiter with readPointer := p.peer } }

/-- The write alternation pointer moves to the peer of the port granted (R67). -/
def State.moveWritePointer (s : State) (p : Port) : State :=
  { s with arbiter := { s.arbiter with writePointer := p.peer } }

/-- The operation becomes the active record and the sequencer enters READING or WRITING with its first transaction called
for (R31, R33, R34, R35, R37). -/
def State.startOperation (s : State) (r : OpRecord) : State :=
  if r.kind.isWrite then
    s.modSeq fun q => { q with active := some r, state := .writing, line := .called .writeEnable }
  else
    s.modSeq fun q => { q with active := some r, state := .reading, line := .called .read }

/-- An aperture whose FIFO shares an address with a starting write-class range is purged (R110). -/
def Aperture.purge (r : Range) (a : Aperture) : Aperture :=
  if !a.fifo.isEmpty && Range.overlaps { first := a.current, length := a.fetch - a.current } r then
    { a with fifo := [], fetch := a.current }
  else a

/-- The purge of both apertures (R110). -/
def State.purge (s : State) (r : Range) : State :=
  (s.modAperture .A (Aperture.purge r)).modAperture .B (Aperture.purge r)

/-- A fill denied by the start check: the aperture enters DENIED, DENYCNT increases, and a stalled read ends with 0xFF and
cause DENIED (R73, R104, R108). -/
def State.denyFill (s : State) (p : Port) : State :=
  let s1 := (s.modAperture p fun a => { a with state := .denied }).countDenial p
  if (s.aperture p).stalled then (s1.endStall p (some 0xFF)).apertureCause p .denied else s1

/-- The grant of port `p`'s fill (R66, R71, R73). -/
def State.grantFill (s : State) (p : Port) : State :=
  let range : Range := { first := (s.aperture p).fetch, length := s.fillLength p }
  let s1 := s.moveReadPointer p
  match s.startCheck p .read range with
  | some _ => s1.denyFill p
  | none =>
    (s1.modAperture p fun a => { a with inFlight := true }).startOperation
      { source := .fill p, orphan := false, kind := .fill, range := range, buffer := none, suspends := 0,
        unsuspendable := false, busyTime := 0, runTime := 0, mismatch := none,
        generation := some (s.aperture p).generation }

/-- A queue head denied by the start check: its slot becomes DONE DENIED, the start index advances, DENYCNT increases (R15,
R72). -/
def State.denyHead (s : State) (p : Port) (detail : Nat) : State :=
  let n := (s.queue p).start
  let s1 := s.modQueue p fun q => { q with start := q.start + 1 }
  (s1.finishSlot p n { status := .denied, detail := BitVec.ofNat 8 detail, suspends := 0 }).countDenial p

/-- A queue head allowed by the start check: its slot becomes ACTIVE, the start index advances, overlapping apertures are
purged for a write-class operation, and the sequencer takes it (R14, R71). -/
def State.startHead (s : State) (p : Port) (op : SlotOp) : State :=
  let n := (s.queue p).start
  let s1 := s.modQueue p fun q => { q.setSlot n (.active op) with start := q.start + 1 }
  let s2 := if op.kind.isWrite then s1.purge op.range else s1
  s2.startOperation
    { source := .queue p n, orphan := false, kind := .slot op.kind, range := op.range, buffer := op.buffer, suspends := 0,
      unsuspendable := false, busyTime := 0, runTime := 0, mismatch := none, generation := none }

/-- The grant of port `p`'s queue head (R70 to R72). -/
def State.grantHead (s : State) (p : Port) : State :=
  match (s.queue p).head with
  | none => s
  | some op =>
    let s1 := if op.kind.isWrite then s.moveWritePointer p else s.moveReadPointer p
    match s.startCheck p op.kind.right op.range with
    | some detail => s1.denyHead p detail
    | none => s1.startHead p op

/-- The grant of the resume: the suspended record becomes the active record and the sequencer enters RESUMING; the dwell
timer stops and resume-due becomes false (R48, R49, R78). -/
def State.grantResume (s : State) : State :=
  match s.seq.suspended with
  | none => s
  | some x =>
    let s1 := { s with arbiter := { s.arbiter with resumeDue := false } }
    s1.modSeq fun q =>
      { q with active := some x.op, suspended := none, state := .resuming, line := .called .resume, dwellTimer := none }

/-- One grant (R59). -/
def State.grant (s : State) : Candidate → State
  | .resume => s.grantResume
  | .fill p => s.grantFill p
  | .readHead p => s.grantHead p
  | .writeHead p => s.grantHead p

/-- A grant point with at most `n` repetitions: while the sequencer is IDLE the chosen candidate is granted; a denial leaves
it IDLE and the grant point repeats (R58, R72). -/
def grantRepeat : Nat → State → State
  | 0, s => s
  | n + 1, s =>
    if s.seq.state = .idle then
      match s.choose with
      | some c => grantRepeat n (s.grant c)
      | none => s
    else s

/-- A grant point (R58).  At most 18 denials come before its last grant (R72). -/
def State.grantPoint (s : State) : State := grantRepeat 19 s

/-- An entry into IDLE, which is a grant point (R29, R58). -/
def State.enterIdle (s : State) : State := (s.setSeqState .idle).grantPoint

/-! ### Suspend requests -/

/-- An eligible read-class candidate exists (R74). -/
def State.readWaits (s : State) : Bool :=
  s.offers (.fill .A) || s.offers (.readHead .A) || s.offers (.fill .B) || s.offers (.readHead .B)

/-- The minimum run before suspend in REFCLK cycles. -/
def State.minRunCycles (s : State) : Nat := cyclesOfMicroseconds s.prof.minRunMicros

/-- The active operation can be suspended now: the conditions of R74 on the sequencer, the profile and the record. -/
def State.suspendable (s : State) : Bool :=
  s.seq.state = .busyWait && s.prof.num .suspendSupported = 1
    && s.seq.active.any fun r =>
        r.kind.isWrite && r.suspends < s.prof.num .maxSuspends && !r.unsuspendable && s.minRunCycles ≤ r.runTime

/-- The sequencer takes a raised suspend request: the poll timer stops and it enters SUSPENDING (R43, R44, R75). -/
def State.takeSuspendRequest (s : State) : State :=
  let s1 := { s with arbiter := { s.arbiter with suspendRequest := false } }
  s1.modSeq fun q =>
    { q with state := .suspending, pollTimer := none, line := .called .suspend, handshakeReads := 0 }

/-- The arbiter evaluates the suspend request (R74, R75): if all conditions hold it is raised, and the sequencer takes it at
once while its poll timer runs (R43). -/
def State.evaluateSuspend (s : State) : State :=
  if !s.arbiter.suspendRequest && s.suspendable && s.readWaits then
    let s1 := { s with arbiter := { s.arbiter with suspendRequest := true } }
    if s1.seq.pollTimer.isSome then s1.takeSuspendRequest else s1
  else s

/-- The arbiter considers an event that may have brought it a new or newly eligible candidate: a grant point while the
sequencer is IDLE (R58), an evaluation of the suspend request otherwise (R75). -/
def State.consider (s : State) : State :=
  if s.seq.state = .idle then s.grantPoint else s.evaluateSuspend

end Sys2Proof.Machine
end

