-- ==== Sys2Proof/Machine/QueueCommands.lean ====
section
/-! DEFINITION. The command queue's rows: POST, RETIRE, START, STOP, RESUME, FLUSH, QMODE_WRITE. -/

namespace Sys2Proof.Machine

/-- The slot at the post index becomes QUEUED, the post index advances and the buffer, if any, is lent to the slot (R7, R88). -/
def State.enqueue (s : State) (p : Port) (op : SlotOp) : State :=
  let n := (s.queue p).post
  let s1 := s.modQueue p fun q => { q.setSlot n (.queued op) with post := q.post + 1 }
  match op.buffer with
  | some b => s1.setHolder b (.lentSlot p n)
  | none => s1

/-- The composer's buffer is held by the port, or the kind names none: step 4 of POST (R5). -/
def State.ownsBuffer (s : State) (p : Port) (op : SlotOp) : Bool :=
  match op.buffer with
  | some b => s.holder b = .port p
  | none => true

/-- POST, checked in the order of R5. -/
def postBody (p : Port) (s : State) : State × Result :=
  match s.profile.committed with
  | none => refuse .refusedState s
  | some prof =>
    if (s.queue p).isFull then refuse .refusedFull s
    else
      match (s.queue p).composer.operation prof.capacity with
      | none => refuse .refusedInvalid s
      | some op => if s.ownsBuffer p op then accept (s.enqueue p op).consider else refuse .refusedOwner s

/-- RETIRE (R21). -/
def retireBody (p : Port) (s : State) : State × Result :=
  let q := s.queue p
  if q.slots[q.retire].isDone then
    accept (s.modQueue p fun x => { x.setSlot x.retire .free with retire := x.retire + 1 })
  else refuse .refusedEmpty s

/-- Put port `p`'s queue into a state. -/
def State.setQueueState (s : State) (p : Port) (q : QueueState) : State := s.modQueue p fun x => { x with state := q }

/-- START (R8, R9). -/
def startBody (p : Port) (s : State) : State × Result :=
  match (s.queue p).state with
  | .stopped => accept (s.setQueueState p .running).consider
  | .running | .stopping | .halted => refuse .refusedState s

/-- STOP (R8, R10). -/
def stopBody (p : Port) (s : State) : State × Result :=
  match (s.queue p).state with
  | .stopped | .stopping => accept s
  | .running => accept (s.setQueueState p (if (s.queue p).hasActive then .stopping else .stopped))
  | .halted => accept (s.setQueueState p .stopped)

/-- RESUME of the queue (R8, R11). -/
def resumeBody (p : Port) (s : State) : State × Result :=
  match (s.queue p).state with
  | .halted => accept (s.setQueueState p .running).consider
  | .stopped | .running | .stopping => refuse .refusedState s

/-- A QUEUED slot completed as FLUSHED (R13); every other slot as it is. -/
def Slot.flushed : Slot → Slot
  | .queued op => .done op { status := .flushed, detail := 0, suspends := 0 }
  | .free => .free
  | .active op => .active op
  | .done op c => .done op c

/-- The holder of a buffer after port `p`'s QUEUED slots were flushed: a buffer lent to one of them is the port's again (R89). -/
def Holder.flushed (p : Port) (q : Queue) : Holder → Holder
  | .lentSlot r n => if r = p && q.slots[n].isQueued then .port p else .lentSlot r n
  | .free => .free
  | .port r => .port r
  | .lentOrphan => .lentOrphan

/-- Every QUEUED slot of port `p` completes as FLUSHED (R13). -/
def State.flushQueue (s : State) (p : Port) : State :=
  let q := s.queue p
  let s1 := s.modQueue p fun x => { x with slots := Vector.ofFn fun n => x.slots[n].flushed, start := x.post }
  let s2 := { s1 with pool := { s1.pool with holders := Vector.ofFn fun b => (s1.pool.holders[b]).flushed p q } }
  s2.countCompletions p (q.count Slot.isQueued)

/-- FLUSH (R8, R13): a ring with no QUEUED slot is left as it is. -/
def flushBody (p : Port) (s : State) : State × Result :=
  match (s.queue p).state with
  | .stopped | .halted => if (s.queue p).count Slot.isQueued = 0 then accept s else accept (s.flushQueue p)
  | .running | .stopping => refuse .refusedState s

/-- A write of QMODE (R12, R186): bit 0 is taken while the queue is STOPPED; otherwise REFUSED_STATE. -/
def writeQmode (p : Port) (v : Byte) (s : State) : State :=
  if (s.queue p).state = .stopped then s.modQueue p fun q => { q with haltOnError := v.getLsbD 0 }
  else s.setResult p .refusedState

/-- POST. -/
def execPost (p : Port) (s : State) : Host.Outcome State Fault Refusal := .next (s.command p (postBody p))

/-- RETIRE. -/
def execRetire (p : Port) (s : State) : Host.Outcome State Fault Refusal := .next (s.command p (retireBody p))

/-- START. -/
def execStart (p : Port) (s : State) : Host.Outcome State Fault Refusal := .next (s.command p (startBody p))

/-- STOP. -/
def execStop (p : Port) (s : State) : Host.Outcome State Fault Refusal := .next (s.command p (stopBody p))

/-- RESUME. -/
def execResume (p : Port) (s : State) : Host.Outcome State Fault Refusal := .next (s.command p (resumeBody p))

/-- FLUSH. -/
def execFlush (p : Port) (s : State) : Host.Outcome State Fault Refusal := .next (s.command p (flushBody p))

/-- QMODE_WRITE. -/
def execQmodeWrite (p : Port) (v : Byte) (s : State) : Host.Outcome State Fault Refusal :=
  .next (s.access p (writeQmode p v))

end Sys2Proof.Machine
end

