-- ==== Sys2Proof/Machine/ApertureCommands.lean ====
section
/-! DEFINITION. The read aperture's rows: OPEN, CLOSE, APDATA_READ, READ_ABANDON, STALL_TIMER_EXPIRY. -/

namespace Sys2Proof.Machine

/-- The FIFO is emptied, both addresses take a value, and the fill generation advances (R99, R100, R102, R112). -/
def Aperture.restart (state : ApertureState) (address : Nat) (a : Aperture) : Aperture :=
  { a with state := state, current := address, fetch := address, fifo := [], generation := a.generation + 1 }

/-- OPEN, judged in the order of R99. -/
def openBody (p : Port) (s : State) : State × Result :=
  match s.profile.committed with
  | none => refuse .refusedState s
  | some prof =>
    let address := (s.aperture p).apaddr.toNat
    if prof.capacity ≤ address then refuse .refusedInvalid s
    else accept (s.modAperture p (Aperture.restart .opened address)).consider

/-- CLOSE (R100). -/
def closeBody (p : Port) (s : State) : State × Result := accept (s.modAperture p (Aperture.restart .closed 0))

/-- The oldest FIFO byte leaves and the current address advances; at capacity the aperture may enter END (R106, R107). -/
def Aperture.takeByte (capacity : Nat) (a : Aperture) : Aperture :=
  Aperture.endAtCapacity capacity { a with fifo := a.fifo.tail, current := a.current + 1 }

/-- A stall begins: the marker is set, the stall timer started, and the data lines are left undriven (R108, R179). -/
def State.beginStall (s : State) (p : Port) : State :=
  (s.modAperture p fun a => { a with stalled := true, stallTimer := startTimer a.limit.toNat }).drive p none

/-- A read of APDATA (R107). -/
def readApdata (p : Port) (s : State) : State :=
  let a := s.aperture p
  match a.fifo with
  | byte :: _ => ((s.modAperture p (Aperture.takeByte s.capacity)).drive p (some byte)).consider
  | [] =>
    match a.state with
    | .closed => s.drive p (some 0xFF)
    | .denied => (s.drive p (some 0xFF)).apertureCause p .denied
    | .ended => (s.drive p (some 0xFF)).apertureCause p .ended
    | .opened =>
      match a.policy with
      | .stall => s.beginStall p
      | .noStall => (s.drive p (some 0xFF)).apertureCause p .underrun

/-- The master abandons its stalled read: no byte is consumed and no cause recorded (R180). -/
def abandonRead (p : Port) (s : State) : State := if (s.aperture p).stalled then s.endStall p none else s

/-- The stall timer expires: the read ends with 0xFF and cause STALL_EXPIRED (R108).  A timer that another event has stopped
in the same instant, or that a later read has started again, has no expiry (R109), nor has one whose time is not up
(assumption 5). -/
def expireStall (p : Port) (s : State) : State :=
  if (s.aperture p).stallTimer = some 0 && (s.aperture p).stalled then
    (s.endStall p (some 0xFF)).apertureCause p .stallExpired
  else s

/-- A profile commit closes an aperture; a stalled read ends with 0xFF and cause CLOSED_BY_COMMIT (R112). -/
def State.closeByCommit (s : State) (p : Port) : State :=
  let s1 := s.modAperture p (Aperture.restart .closed 0)
  if (s.aperture p).stalled then (s1.endStall p (some 0xFF)).apertureCause p .closedByCommit else s1

/-- OPEN. -/
def execOpenAperture (p : Port) (s : State) : Host.Outcome State Fault Refusal := .next (s.command p (openBody p))

/-- CLOSE. -/
def execCloseAperture (p : Port) (s : State) : Host.Outcome State Fault Refusal := .next (s.command p (closeBody p))

/-- APDATA_READ. -/
def execApdataRead (p : Port) (s : State) : Host.Outcome State Fault Refusal := .next (s.access p (readApdata p))

/-- READ_ABANDON. -/
def execReadAbandon (p : Port) (s : State) : Host.Outcome State Fault Refusal := .next (abandonRead p s)

/-- STALL_TIMER_EXPIRY. -/
def execStallTimerExpiry (p : Port) (s : State) : Host.Outcome State Fault Refusal := .next (expireStall p s)

end Sys2Proof.Machine
end

