-- ==== Sys2Proof/Machine/Sequencer.lean ====
section
/-! DEFINITION. The flash sequencer's rows: the line transactions of every operation, polling, the suspend handshake, dwell
and resume, initialization, RECOVER and recovery.  A row whose cause does not stand (a timer that does not run, a
transaction that is not on the line, a sequencer in another state) is an event that cannot come about: it changes nothing
(assumption 5).  A row that comes about comes at the moment its timer or transaction ends (assumption 2). -/

namespace Sys2Proof.Machine

/-- The part at the moment the transaction `t` on the line ends: FCS# rises and stays high for at least 1 µs (R27). -/
def State.endTransaction (s : State) (t : Transaction) : Option State :=
  match s.seq.line with
  | .onLine u left =>
    if u = t then some ((s.elapse left).modSeq fun q => { q with line := .idle, gap := cyclesOfMicroseconds 1 }) else none
  | .idle | .called _ => none

/-- The end of transaction `t` in sequencer state `q`, for the active operation. -/
def State.onOperationEnd (s : State) (q : SeqState) (t : Transaction) (f : OpRecord → State → State) : State :=
  match s.endTransaction t with
  | some s1 =>
    match s1.seq.active with
    | some r => if s.seq.state = q then f r s1 else s
    | none => s
  | none => s

/-- A transaction called for begins (R27): at once, or when FCS# has been high for 1 µs since the previous one. -/
def beginTransaction (s : State) : State :=
  match s.seq.line with
  | .called t =>
    (s.elapse s.seq.gap).modSeq fun q => { q with line := .onLine t (s.transactionCycles t) }
  | .idle | .onLine _ _ => s

/-! ### Read-class operations -/

/-- The read transaction of a READ ends (R33): byte i goes into byte i of the buffer, and the operation completes OK. -/
def finishRead (data : List Byte) (s : State) : State :=
  s.onOperationEnd .reading .read fun r s1 =>
    if r.kind = .slot .read && data.length = r.range.length then
      let s2 :=
        match r.buffer with
        | some b => s1.setBuffer b (fillBuffer s1.pool.bytes[b] data)
        | none => s1
      (s2.complete r .ok 0).enterIdle
    else s

/-- The offset of the first byte that differs from the buffer (R34). -/
def firstMismatch (buffer : Vector Byte 256) (data : List Byte) : Option Nat :=
  (List.range data.length).find? fun i => data[i]? ≠ buffer[i]?

/-- The status and detail byte of a VERIFY by its first-mismatch offset (R34). -/
def verifyOutcome : Option Nat → Status × Byte
  | some i => (.mismatch, BitVec.ofNat 8 i)
  | none => (.ok, 0)

/-- The read transaction of a VERIFY ends (R34). -/
def finishVerify (data : List Byte) (s : State) : State :=
  s.onOperationEnd .reading .read fun r s1 =>
    if r.kind = .slot .verify && data.length = r.range.length then
      let r1 := { r with mismatch := r.buffer.bind fun b => firstMismatch s1.pool.bytes[b] data }
      (s1.complete r1 (verifyOutcome r1.mismatch).1 (verifyOutcome r1.mismatch).2).enterIdle
    else s

/-- The bytes of a fill go to the aperture; an orphan's are discarded (R35, R50). -/
def State.deliverFill (s : State) (r : OpRecord) (data : List Byte) : State :=
  if r.orphan then s else s.fillArrival r.source.port r.generation data

/-- The read transaction of a fill ends (R35, R50). -/
def finishFill (data : List Byte) (s : State) : State :=
  s.onOperationEnd .reading .read fun r s1 =>
    if r.kind = .fill && data.length = r.range.length then
      ((s1.removeActive.deliverFill r data).holdNotice r.source.port).enterIdle
    else s

/-! ### Write-class operations -/

/-- WRITE_ENABLE ends: the latch check follows if the profile names the latch bit, else the command transaction (R37). -/
def finishWriteEnable (s : State) : State :=
  s.onOperationEnd .writing .writeEnable fun _ s1 =>
    s1.callLine (if s1.prof.namesLatch then .writeEnableCheck else .command)

/-- The latch check ends: set, the command transaction follows; clear, the operation completes NOT_ENABLED (R37). -/
def checkWriteEnable (status : Byte) (s : State) : State :=
  s.onOperationEnd .writing .writeEnableCheck fun r s1 =>
    if s1.prof.latchSet status then s1.callLine .command else (s1.complete r .notEnabled 0).enterIdle

/-- Start the poll timer (R39). -/
def State.startPollTimer (s : State) : State := s.modSeq fun q => { q with pollTimer := startTimer s.prof.pollMicros }

/-- The command transaction ends: BUSYWAIT, busy time and run time run from 0, the poll timer starts (R38). -/
def finishCommand (s : State) : State :=
  s.onOperationEnd .writing .command fun _ s1 =>
    (((s1.modActive fun r => { r with busyTime := 0, runTime := 0 }).setSeqState .busyWait).startPollTimer).evaluateSuspend

/-- The poll timer expires in BUSYWAIT and calls for a poll (R39). -/
def expirePoll (s : State) : State :=
  match s.seq.pollTimer with
  | some left =>
    if s.seq.state = .busyWait then
      ((s.elapse left).modSeq fun q => { q with pollTimer := none }).callLine .poll
    else s
  | none => s

/-- The arbiter's request is dropped because the poll ended the operation (R43, R75). -/
def State.dropSuspendRequest (s : State) : State := { s with arbiter := { s.arbiter with suspendRequest := false } }

/-- Completion evaluation of a status byte that shows not busy (R40). -/
def evaluateCompletion (r : OpRecord) (status : Byte) (s : State) : State :=
  if s.prof.reportsError status then s.complete r .flashFail status else s.complete r .ok 0

/-- The timeout of an operation's kind in REFCLK cycles (R39). -/
def State.timeoutCycles (s : State) (k : OpKind) : Nat :=
  match k with
  | .slot k => cyclesOfMicroseconds (s.prof.timeout k)
  | .fill => 0

/-- TIMEOUT (R42): the operation completes, the sequencer enters FAULT, TOCNT increases and FAULT is set in both ports. -/
def timeOut (r : OpRecord) (s : State) : State :=
  (((s.complete r .timeout 0).setSeqState .fault).countTimeout).raiseBoth .fault

/-- A poll ends and is evaluated in the order of R39; a request raised meanwhile is dropped or taken (R43). -/
def finishPoll (status : Byte) (s : State) : State :=
  s.onOperationEnd .busyWait .poll fun r s1 =>
    if !s1.prof.busy status then (evaluateCompletion r status s1.dropSuspendRequest).enterIdle
    else if s1.timeoutCycles r.kind ≤ r.busyTime then timeOut r s1.dropSuspendRequest
    else if s1.arbiter.suspendRequest then s1.takeSuspendRequest
    else s1.startPollTimer

/-- The run time reaches the minimum run, and the arbiter evaluates the suspend request (R75). -/
def reachMinimumRun (s : State) : State :=
  match s.seq.active with
  | some r => if s.seq.state = .busyWait then (s.elapse (s.minRunCycles - r.runTime)).evaluateSuspend else s
  | none => s

/-! ### Suspend handshake, dwell and resume -/

/-- Start the latency timer (R44). -/
def State.startLatencyTimer (s : State) : State :=
  s.modSeq fun q => { q with latencyTimer := startTimer s.prof.latencyMicros }

/-- The SUSPEND transaction ends and the latency timer starts (R44). -/
def finishSuspendTransaction (s : State) : State :=
  s.onOperationEnd .suspending .suspend fun _ s1 => s1.startLatencyTimer

/-- The latency timer expires and calls for a handshake read (R44). -/
def expireLatency (s : State) : State :=
  match s.seq.latencyTimer with
  | some left =>
    if s.seq.state = .suspending then
      ((s.elapse left).modSeq fun q => { q with latencyTimer := none }).callLine .handshake
    else s
  | none => s

/-- A handshake read confirms suspension: the active record moves to the suspended record, the counts increase and the dwell
timer starts; the sequencer enters IDLE (R45). -/
def confirmSuspension (r : OpRecord) (s : State) : State :=
  ((s.modSeq fun q =>
      { q with
        active := none
        suspended := some { op := { r with suspends := r.suspends + 1 }, dwell := 0 }
        dwellTimer := startTimer s.prof.dwellMicros }).countSuspension).enterIdle

/-- The handshake has failed: the operation is marked unsuspendable and polling goes on (R47). -/
def failHandshake (s : State) : State :=
  ((s.modActive fun r => { r with unsuspendable := true }).setSeqState .busyWait).startPollTimer

/-- A handshake read ends and is evaluated (R44). -/
def finishHandshakeRead (status : Byte) (s : State) : State :=
  s.onOperationEnd .suspending .handshake fun r s1 =>
    let s2 := s1.modSeq fun q => { q with handshakeReads := q.handshakeReads + 1 }
    if s2.prof.busy status then
      if s2.seq.handshakeReads < 8 then s2.startLatencyTimer else failHandshake s2
    else if s2.prof.namesSuspended && !s2.prof.indicatesSuspension status then (evaluateCompletion r status s2).enterIdle
    else confirmSuspension r s2

/-- The dwell reaches its maximum: resume-due becomes true, which is a grant point while IDLE (R48, R58, R78). -/
def expireDwell (s : State) : State :=
  match s.seq.dwellTimer, s.seq.suspended with
  | some left, some _ =>
    let s1 := (s.elapse left).modSeq fun q => { q with dwellTimer := none }
    let s2 := { s1 with arbiter := { s1.arbiter with resumeDue := true } }
    if s2.seq.state = .idle then s2.grantPoint else s2
  | _, _ => s

/-- The RESUME transaction ends: BUSYWAIT, run time from 0, the poll timer starts (R49). -/
def finishResumeTransaction (s : State) : State :=
  s.onOperationEnd .resuming .resume fun _ s1 =>
    (((s1.modActive fun r => { r with runTime := 0 }).setSeqState .busyWait).startPollTimer).evaluateSuspend

/-! ### Initialization and recovery -/

/-- The reset sequence begins: RESET_ENABLE if the profile names it, else RESET_DEVICE (R52). -/
def State.startResetSequence (s : State) (q : SeqState) : State :=
  (s.setSeqState q).callLine (if s.prof.num .resetEnableOp ≠ 0 then .resetEnable else .resetDevice)

/-- The sequencer runs the reset sequence. -/
def SeqState.resetting : SeqState → Bool
  | .initializing | .recovering => true
  | .offline | .idle | .reading | .writing | .busyWait | .suspending | .resuming | .fault => false

/-- The end of a transaction of the reset sequence, in INITIALIZING or RECOVERING. -/
def State.onResetEnd (s : State) (t : Transaction) (f : State → State) : State :=
  match s.endTransaction t with
  | some s1 => if s.seq.state.resetting then f s1 else s
  | none => s

/-- RESET_ENABLE ends and calls for RESET_DEVICE (R52). -/
def finishResetEnable (s : State) : State := s.onResetEnd .resetEnable fun s1 => s1.callLine .resetDevice

/-- RESET_DEVICE ends and the recovery delay starts (R52). -/
def finishResetDevice (s : State) : State :=
  s.onResetEnd .resetDevice fun s1 =>
    s1.modSeq fun q => { q with recoveryTimer := startTimer s1.prof.recoveryMicros }

/-- The recovery delay expires and calls for the final status read (R52). -/
def expireRecoveryDelay (s : State) : State :=
  match s.seq.recoveryTimer with
  | some left =>
    if s.seq.state.resetting then
      ((s.elapse left).modSeq fun q => { q with recoveryTimer := none }).callLine .finalRead
    else s
  | none => s

/-- The final status read of initialization ends (R52, R154). -/
def finishInitialization (status : Byte) (s : State) : State :=
  match s.endTransaction .finalRead with
  | some s1 =>
    if s.seq.state = .initializing then
      if s1.prof.busy status then
        (((s1.setSeqState .fault).countRecoveryFailure).raiseBoth .config).raiseBoth .fault
      else (s1.raiseBoth .config).enterIdle
    else s
  | none => s

/-- The final status read of recovery ends (R55). -/
def finishRecovery (status : Byte) (s : State) : State :=
  match s.endTransaction .finalRead with
  | some s1 =>
    if s.seq.state = .recovering then
      if s1.prof.busy status then ((s1.setSeqState .fault).countRecoveryFailure).recoveryCause .failed
      else (s1.recoveryCause .ok).enterIdle
    else s
  | none => s

/-- RECOVER (R54): from either port, in FAULT only. -/
def recoverBody (s : State) : State × Result :=
  if s.seq.state = .fault then accept (s.startResetSequence .recovering) else refuse .refusedState s

/-! ### The rows -/

/-- RECOVER. -/
def execRecover (p : Port) (s : State) : Host.Outcome State Fault Refusal := .next (s.command p recoverBody)

/-- LINE_TRANSACTION_START. -/
def execLineTransactionStart (s : State) : Host.Outcome State Fault Refusal := .next (beginTransaction s)

/-- READ_TRANSACTION_END. -/
def execReadTransactionEnd (data : List Byte) (s : State) : Host.Outcome State Fault Refusal := .next (finishRead data s)

/-- VERIFY_END. -/
def execVerifyEnd (data : List Byte) (s : State) : Host.Outcome State Fault Refusal := .next (finishVerify data s)

/-- FILL_TRANSACTION_END. -/
def execFillTransactionEnd (data : List Byte) (s : State) : Host.Outcome State Fault Refusal := .next (finishFill data s)

/-- WRITE_ENABLE_END. -/
def execWriteEnableEnd (s : State) : Host.Outcome State Fault Refusal := .next (finishWriteEnable s)

/-- WRITE_ENABLE_CHECK. -/
def execWriteEnableCheck (status : Byte) (s : State) : Host.Outcome State Fault Refusal := .next (checkWriteEnable status s)

/-- COMMAND_TRANSACTION_END. -/
def execCommandTransactionEnd (s : State) : Host.Outcome State Fault Refusal := .next (finishCommand s)

/-- POLL_TIMER_EXPIRY. -/
def execPollTimerExpiry (s : State) : Host.Outcome State Fault Refusal := .next (expirePoll s)

/-- POLL_END. -/
def execPollEnd (status : Byte) (s : State) : Host.Outcome State Fault Refusal := .next (finishPoll status s)

/-- RUN_TIME_REACHES_MINIMUM. -/
def execRunTimeReachesMinimum (s : State) : Host.Outcome State Fault Refusal := .next (reachMinimumRun s)

/-- SUSPEND_TRANSACTION_END. -/
def execSuspendTransactionEnd (s : State) : Host.Outcome State Fault Refusal := .next (finishSuspendTransaction s)

/-- LATENCY_TIMER_EXPIRY. -/
def execLatencyTimerExpiry (s : State) : Host.Outcome State Fault Refusal := .next (expireLatency s)

/-- HANDSHAKE_READ_END. -/
def execHandshakeReadEnd (status : Byte) (s : State) : Host.Outcome State Fault Refusal := .next (finishHandshakeRead status s)

/-- DWELL_TIMER_EXPIRY. -/
def execDwellTimerExpiry (s : State) : Host.Outcome State Fault Refusal := .next (expireDwell s)

/-- RESUME_TRANSACTION_END. -/
def execResumeTransactionEnd (s : State) : Host.Outcome State Fault Refusal := .next (finishResumeTransaction s)

/-- RESET_ENABLE_END. -/
def execResetEnableEnd (s : State) : Host.Outcome State Fault Refusal := .next (finishResetEnable s)

/-- RESET_DEVICE_END. -/
def execResetDeviceEnd (s : State) : Host.Outcome State Fault Refusal := .next (finishResetDevice s)

/-- RECOVERY_DELAY_EXPIRY. -/
def execRecoveryDelayExpiry (s : State) : Host.Outcome State Fault Refusal := .next (expireRecoveryDelay s)

/-- INITIALIZATION_END. -/
def execInitializationEnd (status : Byte) (s : State) : Host.Outcome State Fault Refusal := .next (finishInitialization status s)

/-- RECOVERY_END. -/
def execRecoveryEnd (status : Byte) (s : State) : Host.Outcome State Fault Refusal := .next (finishRecovery status s)

end Sys2Proof.Machine
end

