-- ==== Sys2Proof/Machine/ConfigurationCommands.lean ====
section
/-! DEFINITION. The configuration rows: the authority, the three commits, and CFGDATA. -/

namespace Sys2Proof.Machine

/-- Port `p` holds the configuration authority (R157). -/
def State.hasAuthority (s : State) (p : Port) : Bool := s.profile.authority = some p

/-- Set the configuration authority. -/
def State.setAuthority (s : State) (a : Option Port) : State := { s with profile := { s.profile with authority := a } }

/-- CLAIM_AUTHORITY (R157). -/
def claimAuthorityBody (p : Port) (s : State) : State × Result :=
  match s.profile.authority with
  | none => accept ((s.setAuthority (some p)).raiseBoth .config)
  | some q => if q = p then accept s else refuse .refusedBusy s

/-- RELEASE_AUTHORITY (R158). -/
def releaseAuthorityBody (p : Port) (s : State) : State × Result :=
  if s.hasAuthority p then accept (((s.setAuthority none).clearStaging).raiseBoth .config) else refuse .refusedAuthority s

/-- The states in which a profile commit can be taken (R151). -/
def SeqState.quiet : SeqState → Bool
  | .offline | .idle | .fault => true
  | .initializing | .reading | .writing | .busyWait | .suspending | .resuming | .recovering => false

/-- The flash is quiet for a commit: step 2 of R151 finds nothing. -/
def State.quietForCommit (s : State) : Bool :=
  s.seq.state.quiet && s.seq.suspended.isNone && !(s.queue .A).hasWaiting && !(s.queue .B).hasWaiting

/-- An accepted profile commit (R153). -/
def State.takeProfile (s : State) : State :=
  let s1 := { s with profile := { s.profile with committed := some s.profile.staging } }
  (((s1.closeByCommit .A).closeByCommit .B).raiseBoth .config).startResetSequence .initializing

/-- COMMIT_PROFILE, judged in the order of R151. -/
def commitProfileBody (p : Port) (s : State) : State × Result :=
  if !s.hasAuthority p then refuse .refusedAuthority s
  else if !s.quietForCommit then refuse .refusedBusy s
  else if !s.profile.staging.valid then refuse .refusedInvalid s
  else accept s.takeProfile

/-- The staged entry replaces the target entry (R122). -/
def State.takeRegion (s : State) (n : Fin 16) : State :=
  { s with regions := { s.regions with entries := s.regions.entries.set n s.regions.stagedEntry } }

/-- COMMIT_REGION, judged in the order of R122. -/
def commitRegionBody (p : Port) (s : State) : State × Result :=
  if !s.hasAuthority p then refuse .refusedAuthority s
  else if !s.regions.stagingValid then refuse .refusedInvalid s
  else
    let n := Fin.ofNat 16 s.regions.stagedTarget
    if s.regions.entries[n].locked then refuse .refusedLocked s
    else accept ((s.takeRegion n).raiseBoth .config)

/-- COMMIT_DEFAULTS, judged in the order of R123. -/
def commitDefaultsBody (p : Port) (s : State) : State × Result :=
  if !s.hasAuthority p then refuse .refusedAuthority s
  else if s.regions.defaults.locked then refuse .refusedLocked s
  else
    accept (({ s with regions := { s.regions with defaults := s.regions.stagedDefaults } }).raiseBoth .config)

/-- CFGIDX advances by one, from 0xFF to 0x00 (R187). -/
def State.advanceCfgIdx (s : State) (p : Port) : State := s.modPort p fun x => { x with cfgIdx := x.cfgIdx + 1 }

/-- A read of CFGDATA (R187). -/
def readCfgdata (p : Port) (s : State) : State :=
  (s.drive p (some (s.cfgByte (s.port p).cfgIdx))).advanceCfgIdx p

/-- A write of CFGDATA (R187): stored at a staging index for the authority holder, refused there for any other port, ignored
at a view and at an unassigned index; CFGIDX advances in every case. -/
def writeCfgdata (p : Port) (v : Byte) (s : State) : State :=
  let i := (s.port p).cfgIdx
  if (CfgIndex.ofByte i).isStaging then
    if s.hasAuthority p then (s.setStaging i v).advanceCfgIdx p else (s.setResult p .refusedAuthority).advanceCfgIdx p
  else s.advanceCfgIdx p

/-- CLAIM_AUTHORITY. -/
def execClaimAuthority (p : Port) (s : State) : Host.Outcome State Fault Refusal := .next (s.command p (claimAuthorityBody p))

/-- RELEASE_AUTHORITY. -/
def execReleaseAuthority (p : Port) (s : State) : Host.Outcome State Fault Refusal :=
  .next (s.command p (releaseAuthorityBody p))

/-- COMMIT_PROFILE. -/
def execCommitProfile (p : Port) (s : State) : Host.Outcome State Fault Refusal := .next (s.command p (commitProfileBody p))

/-- COMMIT_REGION. -/
def execCommitRegion (p : Port) (s : State) : Host.Outcome State Fault Refusal := .next (s.command p (commitRegionBody p))

/-- COMMIT_DEFAULTS. -/
def execCommitDefaults (p : Port) (s : State) : Host.Outcome State Fault Refusal := .next (s.command p (commitDefaultsBody p))

/-- CFGDATA_READ. -/
def execCfgdataRead (p : Port) (s : State) : Host.Outcome State Fault Refusal := .next (s.access p (readCfgdata p))

/-- CFGDATA_WRITE. -/
def execCfgdataWrite (p : Port) (v : Byte) (s : State) : Host.Outcome State Fault Refusal :=
  .next (s.access p (writeCfgdata p v))

end Sys2Proof.Machine
end

