-- ==== Sys2Proof/Machine/EventCommands.lean ====
section
/-! DEFINITION. The event units' rows: EVFLAGS_WRITE, EVENABLE_WRITE, HOLDOFF_TIMER_EXPIRY, CLEAR_COUNTERS,
CLEAR_GLOBAL_COUNTERS. -/

namespace Sys2Proof.Machine

/-- A byte written to EVFLAGS or EVENABLE as bits of the nine flags: offset 0 is DONE to BUFFER_FREED, offset 1 bit 0 CONFIG. -/
def flagBits (high : Bool) (v : Byte) : BitVec 9 := if high then (v &&& 1).setWidth 9 <<< 8 else v.setWidth 9

/-- The flag bits that an offset of EVFLAGS or EVENABLE holds. -/
def flagMask (high : Bool) : BitVec 9 := if high then 0x100#9 else 0x0FF#9

/-- A write to EVFLAGS clears each flag whose bit is written as 1 (R162). -/
def writeEvflags (p : Port) (high : Bool) (v : Byte) (s : State) : State :=
  s.modPort p fun x => { x with events := { x.events with flags := x.events.flags &&& ~~~flagBits high v } }

/-- A write to EVENABLE replaces the enables of its offset (R163). -/
def writeEvenable (p : Port) (high : Bool) (v : Byte) (s : State) : State :=
  s.modPort p fun x =>
    { x with events := { x.events with enables := (x.events.enables &&& ~~~flagMask high) ||| flagBits high v } }

/-- The holdoff timer expires and a completion notice fires; the expiry of a timer that a notice has stopped has no effect,
also where a later completion has started the timer again (R168).  A row before its time changes nothing (assumption 5). -/
def expireHoldoff (p : Port) (s : State) : State :=
  if (s.events p).holdoffTimer = some 0 then s.notify p EventUnit.completionNotice else s

/-- CLEAR_COUNTERS (R171). -/
def clearCountersBody (p : Port) (s : State) : State × Result :=
  accept (s.modPort p fun x => { x with events := { x.events with errCnt := 0, denyCnt := 0 } })

/-- CLEAR_GLOBAL_COUNTERS (R171). -/
def clearGlobalCountersBody (p : Port) (s : State) : State × Result :=
  if s.hasAuthority p then accept { s with counters := { suspCnt := 0, toCnt := 0, recFail := 0 } }
  else refuse .refusedAuthority s

/-- EVFLAGS_WRITE. -/
def execEvflagsWrite (p : Port) (high : Bool) (v : Byte) (s : State) : Host.Outcome State Fault Refusal :=
  .next (s.access p (writeEvflags p high v))

/-- EVENABLE_WRITE. -/
def execEvenableWrite (p : Port) (high : Bool) (v : Byte) (s : State) : Host.Outcome State Fault Refusal :=
  .next (s.access p (writeEvenable p high v))

/-- HOLDOFF_TIMER_EXPIRY. -/
def execHoldoffTimerExpiry (p : Port) (s : State) : Host.Outcome State Fault Refusal := .next (expireHoldoff p s)

/-- CLEAR_COUNTERS. -/
def execClearCounters (p : Port) (s : State) : Host.Outcome State Fault Refusal := .next (s.command p (clearCountersBody p))

/-- CLEAR_GLOBAL_COUNTERS. -/
def execClearGlobalCounters (p : Port) (s : State) : Host.Outcome State Fault Refusal :=
  .next (s.command p (clearGlobalCountersBody p))

end Sys2Proof.Machine
end

