-- ==== Sys2Proof/Machine/HoldCommands.lean ====
section
/-! DEFINITION. The hold unit's rows: HOLD_REQUEST, HOLD_RENEW, HOLD_RELEASE, HOLD_TIMER_EXPIRY. -/

namespace Sys2Proof.Machine

/-- HOLD_REQUEST, checked in the order of R134; with an empty drain set the hold is granted in the same event (R136). -/
def holdRequestBody (p : Port) (s : State) : State × Result :=
  match s.profile.committed with
  | none => refuse .refusedState s
  | some prof =>
    if s.holdOf p ≠ .none then refuse .refusedState s
    else if (s.port p).holdTime = 0 || prof.num .maxHold < (s.port p).holdTime.toNat then refuse .refusedInvalid s
    else if s.holdOf p.peer ≠ .none then refuse .refusedBusy s
    else
      let s1 := (s.setHold p .pending).setDuration (s.port p).holdTime
      accept (if s1.drained p then s1.grantHold p else s1)

/-- HOLD_RENEW (R139): the timer restarts with the recorded duration, or with the maximum hold where that is now smaller. -/
def holdRenewBody (p : Port) (s : State) : State × Result :=
  match s.holdOf p with
  | .held =>
    let d := if s.prof.num .maxHold < s.hold.duration.toNat then s.prof.field .maxHold else s.hold.duration
    accept ((s.setDuration d).setHoldTimer (startTimer (d.toNat * 1000)))
  | .none | .pending => refuse .refusedState s

/-- HOLD_RELEASE (R140): the peer's candidates become eligible. -/
def holdReleaseBody (p : Port) (s : State) : State × Result :=
  match s.holdOf p with
  | .pending | .held => accept ((s.setHold p .none).setHoldTimer none).consider
  | .none => refuse .refusedState s

/-- The port that is HELD. -/
def State.heldPort (s : State) : Option Port :=
  if s.holdOf .A = .held then some .A else if s.holdOf .B = .held then some .B else none

/-- The hold timer expires: the HELD port goes to NONE with cause EXPIRED (R138).  A timer that a renewal has restarted or
a release stopped in the same instant has no expiry (R139, R140), nor has one whose time is not up (assumption 5). -/
def expireHold (s : State) : State :=
  match s.hold.timer, s.heldPort with
  | some 0, some p => (((s.setHold p .none).setHoldTimer none).holdCause p .expired).consider
  | _, _ => s

/-- HOLD_REQUEST. -/
def execHoldRequest (p : Port) (s : State) : Host.Outcome State Fault Refusal := .next (s.command p (holdRequestBody p))

/-- HOLD_RENEW. -/
def execHoldRenew (p : Port) (s : State) : Host.Outcome State Fault Refusal := .next (s.command p (holdRenewBody p))

/-- HOLD_RELEASE. -/
def execHoldRelease (p : Port) (s : State) : Host.Outcome State Fault Refusal := .next (s.command p (holdReleaseBody p))

/-- HOLD_TIMER_EXPIRY. -/
def execHoldTimerExpiry (s : State) : Host.Outcome State Fault Refusal := .next (expireHold s)

end Sys2Proof.Machine
end

