-- ==== Sys2Proof/Machine/ResetCommands.lean ====
section
/-! DEFINITION. The resets: the port reset of R181 by SOFT_RESET and by PRST_RECOGNISED, the end of the port-in-reset
condition, and power-on reset with its end. -/

namespace Sys2Proof.Machine

/-- An aperture after a port reset (R113): as after power-on, but the generation has advanced. -/
def Aperture.portReset (a : Aperture) : Aperture := { Aperture.reset with generation := a.generation + 1 }

/-- A port's own record after its port reset (R25, R95, R113, R141, R172, R178, R187).  A stalled read ends with 0xFF (R183);
otherwise the data lines are not driven.  The port-in-reset condition is the caller's. -/
def PortState.portReset (x : PortState) : PortState :=
  { PortState.reset with
    aperture := x.aperture.portReset
    inReset := x.inReset
    dataOut := if x.aperture.stalled then some 0xFF else none }

/-- The holder of a buffer after a port reset of `p`, whose ring was `q` (R95). -/
def Holder.portReset (p : Port) (q : Queue) : Holder → Holder
  | .port r => if r = p then .free else .port r
  | .lentSlot r n =>
    if r = p then (if q.slots[n].isActive then .lentOrphan else .free) else .lentSlot r n
  | .free => .free
  | .lentOrphan => .lentOrphan

/-- The holder table after a port reset of `p` (R95). -/
def State.portResetHolders (s : State) (p : Port) : Vector Holder 16 :=
  Vector.ofFn fun b => (s.holder b).portReset p (s.queue p)

/-- The port reset of `p` makes some buffer FREE (R86). -/
def State.portResetFrees (s : State) (p : Port) : Bool :=
  (List.finRange 16).any fun b => s.holder b ≠ .free && (s.portResetHolders p)[b] = .free

/-- The orphan mark of a record issued for port `p` (R51). -/
def OpRecord.orphanFor (p : Port) (r : OpRecord) : OpRecord := if r.source.port = p then { r with orphan := true } else r

/-- The sequencer's records after a port reset of `p` (R51). -/
def Sequencer.orphanFor (p : Port) (q : Sequencer) : Sequencer :=
  { q with
    active := q.active.map (OpRecord.orphanFor p)
    suspended := q.suspended.map fun x => { x with op := x.op.orphanFor p } }

/-- The hold of port `p` ends by its port reset: the timer stops and the duration is discarded (R141). -/
def State.dropHold (s : State) (p : Port) : State :=
  if s.holdOf p = .none then s else ((s.setHold p .none).setHoldTimer none).setDuration 0

/-- A port reset of the authority holder makes the authority NONE, clears the staging records and sets CONFIG in the peer
(R159). -/
def State.dropAuthority (s : State) (p : Port) : State :=
  if s.hasAuthority p then ((s.setAuthority none).clearStaging).raise p.peer .config else s

/-- The port reset of `p` in every block (R181), up to the arbiter's look at what it leaves. -/
def State.portReset (s : State) (p : Port) : State :=
  let s1 := s.modPort p PortState.portReset
  let s2 := { s1 with pool := { s1.pool with holders := s.portResetHolders p } }
  let s3 := ((s2.modSeq (Sequencer.orphanFor p)).dropHold p).dropAuthority p
  let s4 := if s.portResetFrees p then s3.noticeFreed p.peer else s3
  s4.raise p.peer .peerReset

/-- SOFT_RESET (R185): the port reset in the event of the write, after which RESULT reads NONE. -/
def softReset (p : Port) (s : State) : State := (s.portReset p).consider

/-- Enter or leave the port-in-reset condition. -/
def State.setInReset (s : State) (p : Port) (b : Bool) : State := s.modPort p fun x => { x with inReset := b }

/-- A low level on the reset pin is recognised (R183): the port reset, and the port-in-reset condition begins.  While the
condition stands, or in power-on reset, there is no further port reset event. -/
def recogniseReset (p : Port) (s : State) : State :=
  if s.powerOnReset || (s.port p).inReset then s else ((s.portReset p).setInReset p true).consider

/-- The reset pin has been high for 1 µs (R183). -/
def endPortReset (p : Port) (s : State) : State := if s.powerOnReset then s else s.setInReset p false

/-- Power-on reset (R184): every block takes its power-on values.  The queue of waiting commands and the model's tick counter
are no part of the hardware and stay. -/
def powerOn (s : State) : State := { State.reset with powerOnReset := true, ticks := s.ticks, pending := s.pending }

/-- The part leaves power-on reset; a port whose reset pin is low stays in the port-in-reset condition, with no port reset
event (R184). -/
def endPowerOn (lowA lowB : Bool) (s : State) : State :=
  if s.powerOnReset then (({ s with powerOnReset := false }).setInReset .A lowA).setInReset .B lowB else s

/-- SOFT_RESET. -/
def execSoftReset (p : Port) (s : State) : Host.Outcome State Fault Refusal := .next (s.access p (softReset p))

/-- PRST_RECOGNISED. -/
def execPrstRecognised (p : Port) (s : State) : Host.Outcome State Fault Refusal := .next (recogniseReset p s)

/-- PORT_IN_RESET_END. -/
def execPortInResetEnd (p : Port) (s : State) : Host.Outcome State Fault Refusal := .next (endPortReset p s)

/-- POWER_ON_RESET. -/
def execPowerOnReset (s : State) : Host.Outcome State Fault Refusal := .next (powerOn s)

/-- POWER_ON_RESET_END. -/
def execPowerOnResetEnd (lowA lowB : Bool) (s : State) : Host.Outcome State Fault Refusal := .next (endPowerOn lowA lowB s)

end Sys2Proof.Machine
end

