-- ==== Sys2Proof/WellFormed.lean ====
section
/-! DEFINITION. When a term of Instr is a row of the table as the spec gives it. -/

namespace Sys2Proof

/-- The number of bytes a read transaction can receive (R28). -/
def wellFormedData (maxBytes : Nat) (data : List Byte) : Bool :=
  1 ≤ data.length && data.length ≤ maxBytes

/-- A term that spells its row: an undefined command carries a code that names none (R177); a REGISTER_WRITE is a write
at an offset that has no row of its own (R176); a read transaction returned 1 to 256 bytes (R28), a fill at most 16 (R35). -/
def wellFormed : Instr → Bool
  | .undefinedCommand _ code => (CommandName.ofCode code).isNone
  | .registerWrite _ offset _ => !ownWriteRow offset
  | .readTransactionEnd data => wellFormedData 256 data
  | .verifyEnd data => wellFormedData 256 data
  | .fillTransactionEnd data => wellFormedData 16 data
  | .post _ | .retire _ | .start _ | .stop _ | .resume _ | .flush _ | .claim _ | .release _ | .openAperture _
  | .closeAperture _ | .holdRequest _ | .holdRenew _ | .holdRelease _ | .claimAuthority _ | .releaseAuthority _
  | .commitProfile _ | .commitRegion _ | .commitDefaults _ | .clearGlobalCounters _ | .recover _ | .clearCounters _
  | .softReset _ | .qmodeWrite _ _ | .bufdataRead _ | .bufdataWrite _ _ | .apdataRead _ | .evflagsWrite _ _ _
  | .evenableWrite _ _ _ | .cfgdataRead _ | .cfgdataWrite _ _ | .readAbandon _ | .prstRecognised _ | .portInResetEnd _
  | .powerOnReset | .lineTransactionStart | .writeEnableEnd | .writeEnableCheck _ | .commandTransactionEnd
  | .pollTimerExpiry | .pollEnd _ | .runTimeReachesMinimum | .suspendTransactionEnd | .latencyTimerExpiry
  | .handshakeReadEnd _ | .dwellTimerExpiry | .resumeTransactionEnd | .resetEnableEnd | .resetDeviceEnd
  | .recoveryDelayExpiry | .initializationEnd _ | .recoveryEnd _ | .stallTimerExpiry _ | .holdTimerExpiry
  | .holdoffTimerExpiry _ | .powerOnResetEnd _ _ => true

end Sys2Proof
end

