-- ==== Sys2Proof/Machine/Window.lean ====
section
/-! DEFINITION. The register window: what a read of each offset shows (R176, R186 and the window map), the outputs of a port,
and the rows REGISTER_WRITE and UNDEFINED_COMMAND. -/

namespace Sys2Proof.Machine

/-! ### What the window shows -/

/-- PSTAT (Field encodings). -/
def State.pstat (s : State) (p : Port) : Byte :=
  (s.queue p).state.code ||| ((s.aperture p).state.code <<< 2) ||| ((s.holdOf p).code <<< 4)
    ||| flagByte (s.hasAuthority p) 6

/-- SEQSTAT (R30, Field encodings). -/
def State.seqstat (s : State) : Byte := s.seq.state.code ||| flagByte s.seq.suspended.isSome 4

/-- QCOUNT (R4): the QUEUED slots in bits 3:0, the DONE slots in bits 7:4. -/
def State.qcount (s : State) (p : Port) : Byte :=
  BitVec.ofNat 8 ((s.queue p).count Slot.isQueued) ||| (BitVec.ofNat 8 ((s.queue p).count Slot.isDone) <<< 4)

/-- The completion view (R20): the fields CVALID, CSLOT, CTAG, CKIND, CSTATUS, CDETAIL and CSUSP in the order of their
offsets, all 0x00 while the slot at the retire index is not DONE. -/
def State.completionView (s : State) (p : Port) : Vector Byte 7 :=
  match (s.queue p).slots[(s.queue p).retire] with
  | .done op c =>
    #v[1, BitVec.ofNat 8 (s.queue p).retire.val, op.tag, op.kind.code, c.status.code, c.detail, BitVec.ofNat 8 c.suspends]
  | .free | .queued _ | .active _ => Vector.replicate 7 0

/-- HOLDREM (R133): the recorded duration while PENDING; while HELD the time left in ms rounded up, and 1 at the moment
where the time is up and the expiry has not been taken (assumption 26). -/
def State.holdRemaining (s : State) (p : Port) : Byte :=
  match s.holdOf p with
  | .none => 0
  | .pending => s.hold.duration
  | .held =>
    match s.hold.timer with
    | some left => BitVec.ofNat 8 (max 1 ((left + cyclesOfMicroseconds 1000 - 1) / cyclesOfMicroseconds 1000))
    | none => 0

/-- What a read of APDATA would return at once, without its effect; 0x00 where the read would be extended. -/
def State.apdataByte (s : State) (p : Port) : Byte :=
  match (s.aperture p).fifo with
  | byte :: _ => byte
  | [] => if (s.aperture p).state = .opened && (s.aperture p).policy = .stall then 0 else 0xFF

/-- What a read of BUFDATA returns, without its effect (R92). -/
def State.bufdataByte (s : State) (p : Port) : Byte :=
  match s.reachable p with
  | some b => s.bufferByte b (s.port p).bufOfs.toFin
  | none => 0

/-- The byte that a read of a window offset shows at port `p` (window map, R176, R186): unlisted offsets and CMD read 0x00. -/
def State.windowByte (s : State) (p : Port) (offset : BitVec 6) : Byte :=
  let x := s.port p
  let c := x.queue.composer
  match offset.toNat with
  | 0x00 => 0x2A
  | 0x01 => 0x01
  | 0x03 => x.result.code
  | 0x04 => s.pstat p
  | 0x05 => s.seqstat
  | 0x06 => c.kind
  | 0x07 => c.tag
  | 0x08 => byteOf c.addr 0
  | 0x09 => byteOf c.addr 1
  | 0x0A => byteOf c.addr 2
  | 0x0B => c.len
  | 0x0C => c.buf
  | 0x0D => flagByte x.queue.haltOnError 0
  | 0x0E => s.qcount p
  | 0x10 => (s.completionView p)[0]
  | 0x11 => (s.completionView p)[1]
  | 0x12 => (s.completionView p)[2]
  | 0x13 => (s.completionView p)[3]
  | 0x14 => (s.completionView p)[4]
  | 0x15 => (s.completionView p)[5]
  | 0x16 => (s.completionView p)[6]
  | 0x18 => x.bufSel
  | 0x19 => x.bufOfs
  | 0x1A => s.bufdataByte p
  | 0x1B => BitVec.ofNat 8 (s.charge p)
  | 0x20 => byteOf x.aperture.apaddr 0
  | 0x21 => byteOf x.aperture.apaddr 1
  | 0x22 => byteOf x.aperture.apaddr 2
  | 0x23 => s.apdataByte p
  | 0x24 => flagByte (x.aperture.policy = .noStall) 0
  | 0x25 => x.aperture.limit
  | 0x26 => BitVec.ofNat 8 x.aperture.fifo.length
  | 0x28 => x.holdTime
  | 0x29 => s.holdRemaining p
  | 0x2C => byteOf x.events.flags 0
  | 0x2D => byteOf x.events.flags 1
  | 0x2E => byteOf x.events.enables 0
  | 0x2F => byteOf x.events.enables 1
  | 0x30 => x.events.apCause.code
  | 0x31 => x.events.holdCause.code
  | 0x32 => x.events.recCause.code
  | 0x33 => x.events.threshold
  | 0x34 => x.events.holdoff
  | 0x36 => x.events.errCnt
  | 0x37 => x.events.denyCnt
  | 0x38 => s.counters.suspCnt
  | 0x39 => s.counters.toCnt
  | 0x3A => s.counters.recFail
  | 0x3C => x.cfgIdx
  | 0x3D => s.cfgByte x.cfgIdx
  | _ => 0

/-- What a read of a window offset drives: nothing while the port's accesses are ignored (R183, R184, R188). -/
def State.windowRead (s : State) (p : Port) (offset : BitVec 6) : Option Byte :=
  if s.accessTaken p then some (s.windowByte p offset) else none

/-! ### A port's outputs -/

/-- X_RDY is low while a read is extended (R179). -/
def State.rdyLow (s : State) (p : Port) : Bool := (s.aperture p).stalled

/-- X_INT# is low while an enabled flag is set; released in reset (R163, R183, R184). -/
def State.intLow (s : State) (p : Port) : Bool :=
  (s.events p).intAsserted && !(s.port p).inReset && !s.powerOnReset

/-! ### Writes of plain fields -/

/-- Replace one field of the composer (R3). -/
def State.modComposer (s : State) (p : Port) (f : Composer → Composer) : State :=
  s.modQueue p fun q => { q with composer := f q.composer }

/-- A write at an offset that has no row of its own (R176, R186): plain fields are stored, STALLLIM and COALN keep their
value where the byte is not accepted (R101, R166), read-only and unlisted offsets are left alone.  None touches RESULT. -/
def writePlain (p : Port) (offset : BitVec 6) (v : Byte) (s : State) : State :=
  match offset.toNat with
  | 0x06 => s.modComposer p fun c => { c with kind := v }
  | 0x07 => s.modComposer p fun c => { c with tag := v }
  | 0x08 => s.modComposer p fun c => { c with addr := setByte24 c.addr 0 v }
  | 0x09 => s.modComposer p fun c => { c with addr := setByte24 c.addr 1 v }
  | 0x0A => s.modComposer p fun c => { c with addr := setByte24 c.addr 2 v }
  | 0x0B => s.modComposer p fun c => { c with len := v }
  | 0x0C => s.modComposer p fun c => { c with buf := v }
  | 0x18 => s.modPort p fun x => { x with bufSel := v }
  | 0x19 => s.modPort p fun x => { x with bufOfs := v }
  | 0x20 => s.modAperture p fun a => { a with apaddr := setByte24 a.apaddr 0 v }
  | 0x21 => s.modAperture p fun a => { a with apaddr := setByte24 a.apaddr 1 v }
  | 0x22 => s.modAperture p fun a => { a with apaddr := setByte24 a.apaddr 2 v }
  | 0x24 => s.modAperture p fun a => { a with policy := if v.getLsbD 0 then .noStall else .stall }
  | 0x25 => if v = 0 then s else s.modAperture p fun a => { a with limit := v }
  | 0x28 => s.modPort p fun x => { x with holdTime := v }
  | 0x33 =>
    if 1 ≤ v.toNat && v.toNat ≤ 8 then s.modPort p fun x => { x with events := { x.events with threshold := v } } else s
  | 0x34 => s.modPort p fun x => { x with events := { x.events with holdoff := v } }
  | 0x3C => s.modPort p fun x => { x with cfgIdx := v }
  | _ => s

/-- A named command (R177), for the code it is written as. -/
def runCommand (p : Port) (c : CommandName) (s : State) : State :=
  match c with
  | .post => s.command p (postBody p)
  | .retire => s.command p (retireBody p)
  | .start => s.command p (startBody p)
  | .stop => s.command p (stopBody p)
  | .resume => s.command p (resumeBody p)
  | .flush => s.command p (flushBody p)
  | .claim => s.command p (claimBody p)
  | .release => s.command p (releaseBody p)
  | .openAperture => s.command p (openBody p)
  | .closeAperture => s.command p (closeBody p)
  | .holdRequest => s.command p (holdRequestBody p)
  | .holdRenew => s.command p (holdRenewBody p)
  | .holdRelease => s.command p (holdReleaseBody p)
  | .claimAuthority => s.command p (claimAuthorityBody p)
  | .releaseAuthority => s.command p (releaseAuthorityBody p)
  | .commitProfile => s.command p (commitProfileBody p)
  | .commitRegion => s.command p (commitRegionBody p)
  | .commitDefaults => s.command p (commitDefaultsBody p)
  | .clearGlobalCounters => s.command p (clearGlobalCountersBody p)
  | .recover => s.command p recoverBody
  | .clearCounters => s.command p (clearCountersBody p)
  | .softReset => s.access p (softReset p)

/-- A byte written to CMD (R177): a code that names no command is refused REFUSED_INVALID and changes nothing else. -/
def writeCommand (p : Port) (code : Byte) (s : State) : State :=
  match CommandName.ofCode code with
  | some c => runCommand p c s
  | none => s.command p (refuse .refusedInvalid)

/-- A write at any window offset (R186): the offsets with a row of their own do what that row does, so that a term which is
not well-formed still means the bus write it spells (assumption 6). -/
def writeWindow (p : Port) (offset : BitVec 6) (v : Byte) (s : State) : State :=
  match offset.toNat with
  | 0x02 => writeCommand p v s
  | 0x0D => s.access p (writeQmode p v)
  | 0x1A => s.access p (writeBufdata p v)
  | 0x2C => s.access p (writeEvflags p false v)
  | 0x2D => s.access p (writeEvflags p true v)
  | 0x2E => s.access p (writeEvenable p false v)
  | 0x2F => s.access p (writeEvenable p true v)
  | 0x3D => s.access p (writeCfgdata p v)
  | _ => s.access p (writePlain p offset v)

/-- REGISTER_WRITE. -/
def execRegisterWrite (p : Port) (offset : BitVec 6) (v : Byte) (s : State) : Host.Outcome State Fault Refusal :=
  .next (writeWindow p offset v s)

/-- UNDEFINED_COMMAND. -/
def execUndefinedCommand (p : Port) (code : Byte) (s : State) : Host.Outcome State Fault Refusal :=
  .next (writeCommand p code s)

end Sys2Proof.Machine
end

