-- ==== Sys2Proof/Machine/Dispatch.lean ====
section
/-! DEFINITION. exec: one arm for each row of spec/opcode_table.json, each one call of its meaning. -/

namespace Sys2Proof.Machine

def exec (i : Instr) (s : State) : Host.Outcome State Fault Refusal :=
  match i with
  | .post p => Sys2Proof.Machine.execPost p s
  | .retire p => Sys2Proof.Machine.execRetire p s
  | .start p => Sys2Proof.Machine.execStart p s
  | .stop p => Sys2Proof.Machine.execStop p s
  | .resume p => Sys2Proof.Machine.execResume p s
  | .flush p => Sys2Proof.Machine.execFlush p s
  | .claim p => Sys2Proof.Machine.execClaim p s
  | .release p => Sys2Proof.Machine.execRelease p s
  | .openAperture p => Sys2Proof.Machine.execOpenAperture p s
  | .closeAperture p => Sys2Proof.Machine.execCloseAperture p s
  | .holdRequest p => Sys2Proof.Machine.execHoldRequest p s
  | .holdRenew p => Sys2Proof.Machine.execHoldRenew p s
  | .holdRelease p => Sys2Proof.Machine.execHoldRelease p s
  | .claimAuthority p => Sys2Proof.Machine.execClaimAuthority p s
  | .releaseAuthority p => Sys2Proof.Machine.execReleaseAuthority p s
  | .commitProfile p => Sys2Proof.Machine.execCommitProfile p s
  | .commitRegion p => Sys2Proof.Machine.execCommitRegion p s
  | .commitDefaults p => Sys2Proof.Machine.execCommitDefaults p s
  | .clearGlobalCounters p => Sys2Proof.Machine.execClearGlobalCounters p s
  | .recover p => Sys2Proof.Machine.execRecover p s
  | .clearCounters p => Sys2Proof.Machine.execClearCounters p s
  | .softReset p => Sys2Proof.Machine.execSoftReset p s
  | .undefinedCommand p code => Sys2Proof.Machine.execUndefinedCommand p code s
  | .qmodeWrite p v => Sys2Proof.Machine.execQmodeWrite p v s
  | .bufdataRead p => Sys2Proof.Machine.execBufdataRead p s
  | .bufdataWrite p v => Sys2Proof.Machine.execBufdataWrite p v s
  | .apdataRead p => Sys2Proof.Machine.execApdataRead p s
  | .evflagsWrite p high v => Sys2Proof.Machine.execEvflagsWrite p high v s
  | .evenableWrite p high v => Sys2Proof.Machine.execEvenableWrite p high v s
  | .cfgdataRead p => Sys2Proof.Machine.execCfgdataRead p s
  | .cfgdataWrite p v => Sys2Proof.Machine.execCfgdataWrite p v s
  | .registerWrite p offset v => Sys2Proof.Machine.execRegisterWrite p offset v s
  | .readAbandon p => Sys2Proof.Machine.execReadAbandon p s
  | .prstRecognised p => Sys2Proof.Machine.execPrstRecognised p s
  | .portInResetEnd p => Sys2Proof.Machine.execPortInResetEnd p s
  | .powerOnReset => Sys2Proof.Machine.execPowerOnReset s
  | .lineTransactionStart => Sys2Proof.Machine.execLineTransactionStart s
  | .readTransactionEnd data => Sys2Proof.Machine.execReadTransactionEnd data s
  | .verifyEnd data => Sys2Proof.Machine.execVerifyEnd data s
  | .fillTransactionEnd data => Sys2Proof.Machine.execFillTransactionEnd data s
  | .writeEnableEnd => Sys2Proof.Machine.execWriteEnableEnd s
  | .writeEnableCheck status => Sys2Proof.Machine.execWriteEnableCheck status s
  | .commandTransactionEnd => Sys2Proof.Machine.execCommandTransactionEnd s
  | .pollTimerExpiry => Sys2Proof.Machine.execPollTimerExpiry s
  | .pollEnd status => Sys2Proof.Machine.execPollEnd status s
  | .runTimeReachesMinimum => Sys2Proof.Machine.execRunTimeReachesMinimum s
  | .suspendTransactionEnd => Sys2Proof.Machine.execSuspendTransactionEnd s
  | .latencyTimerExpiry => Sys2Proof.Machine.execLatencyTimerExpiry s
  | .handshakeReadEnd status => Sys2Proof.Machine.execHandshakeReadEnd status s
  | .dwellTimerExpiry => Sys2Proof.Machine.execDwellTimerExpiry s
  | .resumeTransactionEnd => Sys2Proof.Machine.execResumeTransactionEnd s
  | .resetEnableEnd => Sys2Proof.Machine.execResetEnableEnd s
  | .resetDeviceEnd => Sys2Proof.Machine.execResetDeviceEnd s
  | .recoveryDelayExpiry => Sys2Proof.Machine.execRecoveryDelayExpiry s
  | .initializationEnd status => Sys2Proof.Machine.execInitializationEnd status s
  | .recoveryEnd status => Sys2Proof.Machine.execRecoveryEnd status s
  | .stallTimerExpiry p => Sys2Proof.Machine.execStallTimerExpiry p s
  | .holdTimerExpiry => Sys2Proof.Machine.execHoldTimerExpiry s
  | .holdoffTimerExpiry p => Sys2Proof.Machine.execHoldoffTimerExpiry p s
  | .powerOnResetEnd lowA lowB => Sys2Proof.Machine.execPowerOnResetEnd lowA lowB s

end Sys2Proof.Machine
end

