-- ==== Sys2Proof/Machine/Tick.lean ====
section
/-! DEFINITION. What the part does while no command waits: a transaction called for begins, or one REFCLK cycle passes and the
part's own timers and the line queue the rows that fall due (assumptions 1 and 3). -/

namespace Sys2Proof.Machine

/-- The row of a timer that has run out. -/
def dueRow (t : Timer) (row : Instr) : List Instr := if t = some 0 then [row] else []

/-- The row by which a transaction ends that brings no byte from the flash device; the rows of the others carry the device's
bytes and come from outside. -/
def endRow : Transaction → List Instr
  | .writeEnable => [.writeEnableEnd]
  | .command => [.commandTransactionEnd]
  | .suspend => [.suspendTransactionEnd]
  | .resume => [.resumeTransactionEnd]
  | .resetEnable => [.resetEnableEnd]
  | .resetDevice => [.resetDeviceEnd]
  | .read | .writeEnableCheck | .poll | .handshake | .finalRead => []

/-- The row of the line that is due. -/
def lineRow (q : Sequencer) : List Instr :=
  match q.line with
  | .idle => []
  | .called _ => if q.gap = 0 then [.lineTransactionStart] else []
  | .onLine t left => if left = 0 then endRow t else []

/-- All conditions of R74 hold while the request is clear. -/
def State.suspendDue (s : State) : Bool := !s.arbiter.suspendRequest && s.suspendable && s.readWaits

/-- The run time has reached the minimum run in this cycle, or it passed it in a row that let time pass and the request is
still to be raised (R75; assumption 22). -/
def minimumRunRow (before after : State) : List Instr :=
  match before.seq.active, after.seq.active with
  | some r, some t =>
    if after.suspendDue
        || (after.seq.state = .busyWait && r.runTime < after.minRunCycles && after.minRunCycles ≤ t.runTime) then
      [.runTimeReachesMinimum]
    else []
  | _, _ => []

/-- The rows that are due after a cycle. -/
def dueRows (before after : State) : List Instr :=
  lineRow after.seq
    ++ dueRow after.seq.pollTimer .pollTimerExpiry
    ++ dueRow after.seq.latencyTimer .latencyTimerExpiry
    ++ dueRow after.seq.dwellTimer .dwellTimerExpiry
    ++ dueRow after.seq.recoveryTimer .recoveryDelayExpiry
    ++ minimumRunRow before after
    ++ dueRow (after.aperture .A).stallTimer (.stallTimerExpiry .A)
    ++ dueRow (after.aperture .B).stallTimer (.stallTimerExpiry .B)
    ++ dueRow after.hold.timer .holdTimerExpiry
    ++ dueRow (after.events .A).holdoffTimer (.holdoffTimerExpiry .A)
    ++ dueRow (after.events .B).holdoffTimer (.holdoffTimerExpiry .B)

/-- Rows that fall due together are taken in either order: each is queued at a place that the free value
Config.tiePosition names (assumption 3).  A row that falls due alone is the queue. -/
def arrange (tick : Nat) : List Instr → List Instr
  | [] => []
  | row :: rest =>
    match arrange tick rest with
    | [] => [row]
    | placed => placed.insertIdx (Config.tiePosition tick rest.length % (placed.length + 1)) row

/-- The transaction called for can begin now: FCS# has been high for 1 µs (R27). -/
def Sequencer.startsNow (q : Sequencer) : Bool :=
  match q.line with
  | .called _ => q.gap = 0
  | .idle | .onLine _ _ => false

/-- The part with no command waiting: a transaction called for that can begin does so at once; else one REFCLK cycle passes. -/
def tick (s : State) : State :=
  if s.seq.startsNow then { s with pending := [.lineTransactionStart] }
  else
    let s1 := { s.elapse 1 with ticks := s.ticks + 1 }
    { s1 with pending := arrange s.ticks (dueRows s s1) }

end Sys2Proof.Machine
end

