-- ==== Sys2Proof/Safety.lean ====
section
/-! DEFINITION. What counts as a safe state of the part, in the terms the claims use: the invariants that the manual states of
the whole machine, and which rows are accesses of a port. -/

namespace Sys2Proof.Machine

/-- The port whose bus access a row is: the commands, the window writes and the three reads with an effect (R175).  The end
of a stalled read by its master is no new access. -/
def accessPort : Instr → Option Port
  | .post p | .retire p | .start p | .stop p | .resume p | .flush p | .claim p | .release p | .openAperture p
  | .closeAperture p | .holdRequest p | .holdRenew p | .holdRelease p | .claimAuthority p | .releaseAuthority p
  | .commitProfile p | .commitRegion p | .commitDefaults p | .clearGlobalCounters p | .recover p | .clearCounters p
  | .softReset p | .undefinedCommand p _ | .qmodeWrite p _ | .bufdataRead p | .bufdataWrite p _ | .apdataRead p
  | .evflagsWrite p _ _ | .evenableWrite p _ _ | .cfgdataRead p | .cfgdataWrite p _ | .registerWrite p _ _ => some p
  | .readAbandon _ | .prstRecognised _ | .portInResetEnd _ | .powerOnReset | .lineTransactionStart
  | .readTransactionEnd _ | .verifyEnd _ | .fillTransactionEnd _ | .writeEnableEnd | .writeEnableCheck _
  | .commandTransactionEnd | .pollTimerExpiry | .pollEnd _ | .runTimeReachesMinimum | .suspendTransactionEnd
  | .latencyTimerExpiry | .handshakeReadEnd _ | .dwellTimerExpiry | .resumeTransactionEnd | .resetEnableEnd
  | .resetDeviceEnd | .recoveryDelayExpiry | .initializationEnd _ | .recoveryEnd _ | .stallTimerExpiry _
  | .holdTimerExpiry | .holdoffTimerExpiry _ | .powerOnResetEnd _ _ => none

/-! ### The line -/

/-- The part at the moment the transaction on the line ends, `left` cycles from now (R27): the time has passed, FCS# is high and
stays high for at least 1 µs. -/
def State.lineEnded (s : State) (left : Nat) : State :=
  (s.elapse left).modSeq fun q => { q with line := .idle, gap := 32 }

/-! ### The hold -/

/-- R131 and R132: at most one port is PENDING or HELD; while a port is HELD no operation issued for the other port is active
or suspended; the hold timer runs exactly while a port is HELD. -/
structure HoldExclusive (s : State) : Prop where
  one : s.holdOf .A = .none ∨ s.holdOf .B = .none
  alone : ∀ p, s.holdOf p = .held → s.drained p = true
  timed : s.hold.timer.isSome = true ↔ ∃ p, s.holdOf p = .held

/-! ### The sequencer -/

/-- What the active record may be in each sequencer state (the table of sequencer states before R29). -/
def activeFits (q : SeqState) (r : Option OpRecord) : Prop :=
  match q with
  | .offline | .initializing | .idle | .fault | .recovering => r = none
  | .reading => ∃ x, r = some x ∧ x.kind.isWrite = false
  | .writing | .busyWait | .suspending | .resuming => ∃ x, r = some x ∧ x.kind.isWrite = true

/-- R32 and the table of sequencer states: the records present fit the sequencer state; the suspended operation is
write-class and stands only beside IDLE or READING; its range and the active operation's have no address in common. -/
structure RecordsFit (q : Sequencer) : Prop where
  active : activeFits q.state q.active
  place : q.suspended.isSome = true → q.state = .idle ∨ q.state = .reading
  write : ∀ x, q.suspended = some x → x.op.kind.isWrite = true
  apart : ∀ x r, q.suspended = some x → q.active = some r → r.range.overlaps x.op.range = false

/-- The transaction called for or on the line. -/
def Line.carried : Line → Option Transaction
  | .idle => none
  | .called t | .onLine t _ => some t

/-- What is on the line or pending in each sequencer state (the last column of the table before R29): in every state that
waits, exactly one thing that will end the wait. -/
def lineFits (q : Sequencer) : Prop :=
  match q.state with
  | .offline | .idle | .fault =>
    q.line = .idle ∧ q.pollTimer = none ∧ q.latencyTimer = none ∧ q.recoveryTimer = none
  | .initializing | .recovering =>
    q.pollTimer = none ∧ q.latencyTimer = none
      ∧ ((q.recoveryTimer = none
            ∧ (q.line.carried = some .resetEnable ∨ q.line.carried = some .resetDevice ∨ q.line.carried = some .finalRead))
          ∨ (q.recoveryTimer.isSome = true ∧ q.line = .idle))
  | .reading => q.line.carried = some .read ∧ q.pollTimer = none ∧ q.latencyTimer = none ∧ q.recoveryTimer = none
  | .writing =>
    (q.line.carried = some .writeEnable ∨ q.line.carried = some .writeEnableCheck ∨ q.line.carried = some .command)
      ∧ q.pollTimer = none ∧ q.latencyTimer = none ∧ q.recoveryTimer = none
  | .busyWait =>
    q.latencyTimer = none ∧ q.recoveryTimer = none
      ∧ ((q.pollTimer.isSome = true ∧ q.line = .idle) ∨ (q.pollTimer = none ∧ q.line.carried = some .poll))
  | .suspending =>
    q.pollTimer = none ∧ q.recoveryTimer = none
      ∧ ((q.latencyTimer.isSome = true ∧ q.line = .idle)
          ∨ (q.latencyTimer = none ∧ (q.line.carried = some .suspend ∨ q.line.carried = some .handshake)))
  | .resuming => q.line.carried = some .resume ∧ q.pollTimer = none ∧ q.latencyTimer = none ∧ q.recoveryTimer = none

/-- The line, the sequencer's timers and the arbiter's two conditions fit the sequencer: a raised suspend request waits for
the poll on the line (R43); a suspended record is watched by its dwell timer until resume-due stands for it (R48, R78). -/
structure LineFits (s : State) : Prop where
  line : lineFits s.seq
  request : s.arbiter.suspendRequest = true → s.seq.state = .busyWait ∧ s.seq.line.carried = some .poll
  dwell : s.seq.dwellTimer.isSome = true → s.seq.suspended.isSome = true ∧ s.arbiter.resumeDue = false
  due : s.arbiter.resumeDue = true → s.seq.suspended.isSome = true
  watched : s.seq.suspended.isSome = true → s.seq.dwellTimer.isSome = true ∨ s.arbiter.resumeDue = true

/-- R74 and R152: the committed profile is a valid one; no operation's suspend count exceeds its maximum suspends, and an
operation that a request stands for, or that is in the handshake, is below it and not marked unsuspendable. -/
structure SuspendsBounded (s : State) : Prop where
  profile : ∀ prof, s.profile.committed = some prof → prof.valid = true
  active : ∀ r, s.seq.active = some r → r.suspends ≤ s.prof.num .maxSuspends
  suspended : ∀ x, s.seq.suspended = some x → 1 ≤ x.op.suspends ∧ x.op.suspends ≤ s.prof.num .maxSuspends
  standing : ∀ r, s.seq.active = some r → s.arbiter.suspendRequest = true ∨ s.seq.state = .suspending →
    r.suspends < s.prof.num .maxSuspends ∧ r.unsuspendable = false

/-- R58, R62: the part never rests in IDLE beside an eligible candidate, so never beside a suspended record. -/
def WorkConserving (s : State) : Prop := s.seq.state = .idle → s.choose = none

/-! ### The rings -/

/-- Slot `i` places after the retire index. -/
def Queue.fromRetire (q : Queue) (i : Nat) : Slot := q.slots[q.retire + Fin.ofNat 8 i]

/-- R2: from the retire index in ring order a port's slots are DONE, then at most one ACTIVE, then QUEUED, then FREE; the
start index stands after the DONE and ACTIVE slots and the post index after the QUEUED ones. -/
structure RingShape (q : Queue) (done active queued : Nat) : Prop where
  size : done + active + queued ≤ 8
  oneActive : active ≤ 1
  dones : ∀ i, i < done → (q.fromRetire i).isDone = true
  actives : ∀ i, done ≤ i → i < done + active → (q.fromRetire i).isActive = true
  queueds : ∀ i, done + active ≤ i → i < done + active + queued → (q.fromRetire i).isQueued = true
  frees : ∀ i, done + active + queued ≤ i → i < 8 → (q.fromRetire i).isFree = true
  start : q.start = q.retire + Fin.ofNat 8 (done + active)
  post : q.post = q.retire + Fin.ofNat 8 (done + active + queued)

/-- R8: STOPPED and HALTED have no ACTIVE slot, STOPPING has one. -/
def queueStateFits (q : Queue) : Prop :=
  match q.state with
  | .stopped | .halted => q.hasActive = false
  | .running => True
  | .stopping => q.hasActive = true

/-- A record not marked orphan names slot `n` of port `p`. -/
def OpRecord.names (p : Port) (n : Fin 8) (r : OpRecord) : Prop := r.orphan = false ∧ r.source = .queue p n

/-- The sequencer holds the operation record, active or suspended. -/
def Sequencer.holds (q : Sequencer) (r : OpRecord) : Prop := q.active = some r ∨ ∃ x, q.suspended = some x ∧ x.op = r

/-- The queues' invariant: each ring has the shape of R2 and a queue state that fits it (R8); a slot is ACTIVE exactly when a
record not marked orphan names it, and one record does (R14); a record is a fill exactly when an aperture is its source (R31);
and the records fit the sequencer state (R32). -/
structure QueuesConsistent (s : State) : Prop where
  rings : ∀ p, ∃ done active queued, RingShape (s.queue p) done active queued
  states : ∀ p, queueStateFits (s.queue p)
  named : ∀ p n, (s.queue p).slots[n].isActive = true ↔ ∃ r, s.seq.holds r ∧ r.names p n
  once : ∀ p n r x, s.seq.active = some r → s.seq.suspended = some x → ¬ (r.names p n ∧ x.op.names p n)
  kinds : ∀ r, s.seq.holds r → (r.kind = .fill ↔ ∃ p, r.source = .fill p)
  records : RecordsFit s.seq

/-! ### The buffers -/

/-- R83, R88 to R90: a buffer is LENT to a slot exactly when that slot is QUEUED or ACTIVE and names it, and LENT to an orphan
exactly when an orphaned record holds it; a record not marked orphan has the buffer of its slot, a fill has none, and no
buffer is in both records. -/
structure BuffersConsistent (s : State) : Prop where
  lent : ∀ p n op b, (s.queue p).slots[n].waiting = some op → op.buffer = some b → s.holder b = .lentSlot p n
  named : ∀ p n b, s.holder b = .lentSlot p n → ∃ op, (s.queue p).slots[n].waiting = some op ∧ op.buffer = some b
  orphaned : ∀ b, s.holder b = .lentOrphan ↔ ∃ r, s.seq.holds r ∧ r.orphan = true ∧ r.buffer = some b
  record : ∀ p n r, s.seq.holds r → r.names p n → ∃ op, (s.queue p).slots[n].waiting = some op ∧ r.buffer = op.buffer
  fills : ∀ p r, s.seq.holds r → r.source = .fill p → r.buffer = none
  apart : ∀ r x b, s.seq.active = some r → s.seq.suspended = some x → r.buffer = some b → x.op.buffer ≠ some b

/-! ### The apertures -/

/-- R97, R98, R106, R108: the FIFO holds the bytes from the current address to the fetch address, at most 16; a CLOSED
aperture has none and both addresses 0, an END aperture has none; a read is stalled only while the aperture is OPEN with an
empty FIFO, and the stall timer runs exactly then. -/
structure ApertureShape (a : Aperture) : Prop where
  count : a.current + a.fifo.length = a.fetch
  room : a.fifo.length ≤ 16
  closed : a.state = .closed → a.fifo = [] ∧ a.current = 0
  ended : a.state = .ended → a.fifo = []
  stalled : a.stalled = true → a.state = .opened ∧ a.fifo = []
  timer : a.stallTimer.isSome = a.stalled

/-- A fill of port `p` that no port reset has orphaned. -/
def OpRecord.fills (p : Port) (r : OpRecord) : Prop := r.source = .fill p ∧ r.orphan = false

/-- R66, R97, R102, R105: a fill of the aperture's generation goes to an OPEN aperture, continues its FIFO at the fetch
address, fits the room left and ends at or below capacity. -/
structure FillFits (a : Aperture) (r : Range) (capacity : Nat) : Prop where
  opened : a.state = .opened
  next : r.first = a.fetch
  room : a.fifo.length + r.length ≤ 16
  inside : r.first + r.length ≤ capacity

/-- Both apertures have their shape and stay within capacity, END at it (R106); every fill record is of at least one byte
(R66); the fill-in-flight marker stands exactly for the active fill (R97); an active fill of the current generation fits its
aperture; and no FIFO byte is of an address in the range of an active or suspended write-class operation (R111). -/
structure AperturesConsistent (s : State) : Prop where
  shape : ∀ p, ApertureShape (s.aperture p)
  bound : ∀ p, (s.aperture p).fetch ≤ s.capacity
  ended : ∀ p, (s.aperture p).state = .ended → (s.aperture p).fetch = s.capacity
  fills : ∀ r, s.seq.holds r → r.kind = .fill → 1 ≤ r.range.length
  marker : ∀ p, (s.aperture p).inFlight = true ↔ ∃ r, s.seq.active = some r ∧ r.fills p
  fits : ∀ p r, s.seq.active = some r → r.fills p → r.generation = some (s.aperture p).generation →
    FillFits (s.aperture p) r.range s.capacity
  fresh : ∀ p r a, s.seq.holds r → r.kind.isWrite = true → (s.aperture p).current ≤ a → a < (s.aperture p).fetch →
    r.range.contains a = false

/-- R102: where the active record stays, the fill generation of its port does not come round to the one it holds (it advances
by one at a time and returns after 65536 advances; assumption 19). -/
def GenerationNotReused (s t : State) : Prop :=
  ∀ p r, s.seq.active = some r → t.seq.active = some r → r.fills p → r.generation ≠ some (s.aperture p).generation →
    r.generation ≠ some (t.aperture p).generation

/-! ### Settings -/

/-- The settings that a window write can reach stay in their ranges: the coalescing threshold 1 to 8 (R166), the stall limit 1
to 255 µs (R101); and the holdoff timer runs exactly while completions wait for their notice (R166, R167). -/
structure SettingsInRange (s : State) : Prop where
  threshold : ∀ p, 1 ≤ (s.events p).threshold.toNat ∧ (s.events p).threshold.toNat ≤ 8
  limit : ∀ p, (s.aperture p).limit ≠ 0
  coalescing : ∀ p, (s.events p).holdoffTimer.isSome = true ↔ 0 < (s.events p).pendingCount

end Sys2Proof.Machine
end

