-- ==== Sys2Proof/Certificates/Slice0/Obligations.lean ====
section
/-! DEFINITION. What is stated of the part, for the provers: each statement's docstring names the rules it formalises or, where
it rests on a choice of the model, the assumption-log entry. -/

section Statements

open Sys2Proof Sys2Proof.Machine

/-- A step takes the command at the front of the queue (from R175). The order in which waiting commands are taken is
the model's queue (assumptions 1 and 14). -/
def Obligations.StepTakesFrontCommand : Prop :=
  ∀ (s : State) (c : Instr) (rest : List Instr),
    step { s with pending := c :: rest } = exec c { s with pending := rest }

/-- With no command waiting a called transaction begins, or one REFCLK cycle passes and the rows that fall due are
queued (from R27, R39, R41, R44, R48, R52, R75, R108, R138, R168). What the queue holds after an idle step is the
model's choice (assumptions 1, 3 and 22). -/
def Obligations.IdleStepPassesOneCycle : Prop :=
  ∀ s : State, s.pending = [] →
    (∀ u, s.seq.line = .called u → s.seq.gap = 0 → step s = .next { s with pending := [.lineTransactionStart] })
    ∧ ((∀ u, s.seq.line = .called u → s.seq.gap ≠ 0) →
        let fallen := fun t : Timer => t.map fun left => left - 1
        let port := fun x : PortState =>
          { x with aperture := { x.aperture with stallTimer := fallen x.aperture.stallTimer }
                   events := { x.events with holdoffTimer := fallen x.events.holdoffTimer } }
        let due := fun (t : Timer) (row : Instr) => if t = some 0 then [row] else []
        let minRun := s.prof.num .minRun * 50 * 32
        ∃ (t : State) (raised : List Instr), step s = .next t
          ∧ t = { s with
              pending := t.pending
              ticks := s.ticks + 1
              hold := { s.hold with timer := fallen s.hold.timer }
              ports := ⟨port s.ports.a, port s.ports.b⟩
              seq := { s.seq with
                active :=
                  if s.seq.state = .busyWait ∨ s.seq.state = .suspending then
                    s.seq.active.map fun r => { r with busyTime := r.busyTime + 1, runTime := r.runTime + 1 }
                  else s.seq.active
                suspended := s.seq.suspended.map fun x => { x with dwell := x.dwell + 1 }
                line :=
                  match s.seq.line with
                  | .onLine u left => .onLine u (left - 1)
                  | .called u => .called u
                  | .idle => .idle
                gap := s.seq.gap - 1
                pollTimer := fallen s.seq.pollTimer, latencyTimer := fallen s.seq.latencyTimer
                dwellTimer := fallen s.seq.dwellTimer, recoveryTimer := fallen s.seq.recoveryTimer } }
          ∧ t.pending.Perm
              ((match t.seq.line with
                | .onLine .writeEnable 0 => [.writeEnableEnd]
                | .onLine .command 0 => [.commandTransactionEnd]
                | .onLine .suspend 0 => [.suspendTransactionEnd]
                | .onLine .resume 0 => [.resumeTransactionEnd]
                | .onLine .resetEnable 0 => [.resetEnableEnd]
                | .onLine .resetDevice 0 => [.resetDeviceEnd]
                | .called _ => if t.seq.gap = 0 then [.lineTransactionStart] else []
                | _ => [])
              ++ due t.seq.pollTimer .pollTimerExpiry ++ due t.seq.latencyTimer .latencyTimerExpiry
              ++ due t.seq.dwellTimer .dwellTimerExpiry ++ due t.seq.recoveryTimer .recoveryDelayExpiry ++ raised
              ++ due (t.aperture .A).stallTimer (.stallTimerExpiry .A) ++ due (t.aperture .B).stallTimer (.stallTimerExpiry .B)
              ++ due t.hold.timer .holdTimerExpiry
              ++ due (t.events .A).holdoffTimer (.holdoffTimerExpiry .A)
              ++ due (t.events .B).holdoffTimer (.holdoffTimerExpiry .B))
          ∧ (raised = [] ∨ raised = [.runTimeReachesMinimum])
          ∧ (raised ≠ [] ↔ ∃ r, s.seq.active = some r
              ∧ ((s.seq.state = .busyWait ∧ r.runTime + 1 = minRun)
                  ∨ (t.arbiter.suspendRequest = false ∧ t.suspendable = true ∧ t.readWaits = true))))

/-- Every command completes, and by the model's choice leaves the queue of waiting commands and the tick counter (from
R177, R178, R56). That every command, POWER_ON_RESET included, leaves the waiting commands and the tick counter is the
model's choice (assumptions 14 and 17). -/
def Obligations.EveryCommandCompletes : Prop :=
  ∀ (i : Instr) (s : State), ∃ t, exec i s = .next t ∧ t.pending = s.pending ∧ t.ticks = s.ticks

/-- The rows that are bus writes and the bus writes correspond one to one (from R177, R186). -/
def Obligations.BusWritesDecodeToTheirRow : Prop :=
  (∀ (i : Instr) (p : Port) (offset : BitVec 6) (v : Byte),
      wellFormed i = true → busWriteOf i = some (p, offset, v) → decodeWrite p offset v = i)
  ∧ ∀ (p : Port) (offset : BitVec 6) (v : Byte),
      wellFormed (decodeWrite p offset v) = true ∧ busWriteOf (decodeWrite p offset v) = some (p, offset, v)

/-- A write runs as the row it spells, and an undefined code is refused REFUSED_INVALID (from R177, R186). Assumption
6 for the terms that are not well-formed. -/
def Obligations.BusWritesRunAsTheirRow : Prop :=
  (∀ (p : Port) (offset : BitVec 6) (v : Byte) (s : State),
      exec (.registerWrite p offset v) s = exec (decodeWrite p offset v) s)
  ∧ (∀ (p : Port) (code : Byte) (s : State), exec (.undefinedCommand p code) s = exec (decodeCommand p code) s)
  ∧ ∀ (p : Port) (code : Byte) (s : State), s.accessTaken p = true → CommandName.ofCode code = none →
      exec (.undefinedCommand p code) s = .next (s.setResult p .refusedInvalid)

/-- An access of a port in reset, of a stalled port or during power-on reset changes nothing (from R183, R184, R108,
R179). For the stalled port assumption 4. -/
def Obligations.AccessesNotTakenChangeNothing : Prop :=
  ∀ (i : Instr) (p : Port) (s : State), accessPort i = some p →
    (s.powerOnReset = true ∨ (s.port p).inReset = true ∨ (s.aperture p).stalled = true) → exec i s = .next s

/-- A write of a plain field stores the byte and changes nothing else; other offsets ignore it (from R176, R186, R3,
R91, R101, R133, R166, R187). -/
def Obligations.PlainWritesAreStored : Prop :=
  ∀ (p : Port) (v : Byte) (s : State), s.accessTaken p = true →
    let composer := fun f : Composer → Composer => s.modQueue p fun q => { q with composer := f q.composer }
    let apaddr := fun f : BitVec 24 → BitVec 24 => s.modAperture p fun a => { a with apaddr := f a.apaddr }
    let byte0 := fun a : BitVec 24 => (a.extractLsb' 8 16 ++ v : BitVec 24)
    let byte1 := fun a : BitVec 24 => (a.extractLsb' 16 8 ++ v ++ a.extractLsb' 0 8 : BitVec 24)
    let byte2 := fun a : BitVec 24 => (v ++ a.extractLsb' 0 16 : BitVec 24)
    exec (.registerWrite p 0x06 v) s = .next (composer fun c => { c with kind := v })
    ∧ exec (.registerWrite p 0x07 v) s = .next (composer fun c => { c with tag := v })
    ∧ exec (.registerWrite p 0x08 v) s = .next (composer fun c => { c with addr := byte0 c.addr })
    ∧ exec (.registerWrite p 0x09 v) s = .next (composer fun c => { c with addr := byte1 c.addr })
    ∧ exec (.registerWrite p 0x0A v) s = .next (composer fun c => { c with addr := byte2 c.addr })
    ∧ exec (.registerWrite p 0x0B v) s = .next (composer fun c => { c with len := v })
    ∧ exec (.registerWrite p 0x0C v) s = .next (composer fun c => { c with buf := v })
    ∧ exec (.registerWrite p 0x18 v) s = .next (s.modPort p fun x => { x with bufSel := v })
    ∧ exec (.registerWrite p 0x19 v) s = .next (s.modPort p fun x => { x with bufOfs := v })
    ∧ exec (.registerWrite p 0x20 v) s = .next (apaddr byte0)
    ∧ exec (.registerWrite p 0x21 v) s = .next (apaddr byte1)
    ∧ exec (.registerWrite p 0x22 v) s = .next (apaddr byte2)
    ∧ exec (.registerWrite p 0x24 v) s
        = .next (s.modAperture p fun a => { a with policy := if v.getLsbD 0 then .noStall else .stall })
    ∧ (v ≠ 0 → exec (.registerWrite p 0x25 v) s = .next (s.modAperture p fun a => { a with limit := v }))
    ∧ (v = 0 → exec (.registerWrite p 0x25 v) s = .next s)
    ∧ exec (.registerWrite p 0x28 v) s = .next (s.modPort p fun x => { x with holdTime := v })
    ∧ (1 ≤ v.toNat ∧ v.toNat ≤ 8 → exec (.registerWrite p 0x33 v) s
        = .next (s.modPort p fun x => { x with events := { x.events with threshold := v } }))
    ∧ (v.toNat = 0 ∨ 9 ≤ v.toNat → exec (.registerWrite p 0x33 v) s = .next s)
    ∧ exec (.registerWrite p 0x34 v) s
        = .next (s.modPort p fun x => { x with events := { x.events with holdoff := v } })
    ∧ exec (.registerWrite p 0x3C v) s = .next (s.modPort p fun x => { x with cfgIdx := v })
    ∧ ∀ offset : BitVec 6,
        offset.toNat ∈ [0x00, 0x01, 0x03, 0x04, 0x05, 0x0E, 0x0F, 0x10, 0x11, 0x12, 0x13, 0x14, 0x15, 0x16, 0x17, 0x1B, 0x1C,
          0x1D, 0x1E, 0x1F, 0x23, 0x26, 0x27, 0x29, 0x2A, 0x2B, 0x30, 0x31, 0x32, 0x35, 0x36, 0x37, 0x38, 0x39, 0x3A,
          0x3B, 0x3E, 0x3F] →
        exec (.registerWrite p offset v) s = .next s

/-- A written window field reads back and moves only the data it selects, and each status field shows its state (from
R176, R3, R91, R92, R133, R4, R20, R30, R84, R97, R179, R187). That HOLDREM reads 1 where the expiry is due and not
yet taken is the model's (assumption 26). -/
def Obligations.WindowShowsTheState : Prop :=
  (∀ (p : Port) (offset : BitVec 6) (v : Byte) (s : State), s.accessTaken p = true →
    offset.toNat ∈ [0x06, 0x07, 0x08, 0x09, 0x0A, 0x0B, 0x0C, 0x18, 0x19, 0x20, 0x21, 0x22, 0x28, 0x34, 0x3C] →
    ∃ t, exec (.registerWrite p offset v) s = .next t
      ∧ t.windowByte p offset = v
      ∧ (∀ o, o ≠ offset → ¬ (o = 0x1A ∧ (offset = 0x18 ∨ offset = 0x19)) → ¬ (o = 0x3D ∧ offset = 0x3C) →
          t.windowByte p o = s.windowByte p o)
      ∧ (offset = 0x18 →
          (∀ b : Fin 16, v.toNat = b.val → s.holder b = .port p →
              t.windowByte p 0x1A = s.bufferByte b (s.port p).bufOfs.toFin)
          ∧ ((∀ b : Fin 16, v.toNat = b.val → s.holder b ≠ .port p) → t.windowByte p 0x1A = 0))
      ∧ (offset = 0x19 →
          (∀ b : Fin 16, (s.port p).bufSel.toNat = b.val → s.holder b = .port p →
              t.windowByte p 0x1A = s.bufferByte b v.toFin)
          ∧ ((∀ b : Fin 16, (s.port p).bufSel.toNat = b.val → s.holder b ≠ .port p) → t.windowByte p 0x1A = 0))
      ∧ (offset = 0x3C → t.windowByte p 0x3D = s.cfgByte v)
      ∧ ∀ o, t.windowByte p.peer o = s.windowByte p.peer o)
  ∧ ∀ (p : Port) (s : State),
    let shown := fun offset : BitVec 6 => (s.windowByte p offset).toNat
    let q := s.queue p
    (shown 0x04
      = (match q.state with | .stopped => 0 | .running => 1 | .stopping => 2 | .halted => 3)
        + 4 * (match (s.aperture p).state with | .closed => 0 | .opened => 1 | .denied => 2 | .ended => 3)
        + 16 * (match s.holdOf p with | .none => 0 | .pending => 1 | .held => 2)
        + 64 * (if s.profile.authority = some p then 1 else 0))
    ∧ (shown 0x05
      = (match s.seq.state with
          | .offline => 0 | .initializing => 1 | .idle => 2 | .reading => 3 | .writing => 4 | .busyWait => 5
          | .suspending => 6 | .resuming => 7 | .fault => 8 | .recovering => 9)
        + 16 * (if s.seq.suspended = none then 0 else 1))
    ∧ shown 0x0E = q.count Slot.isQueued + 16 * q.count Slot.isDone
    ∧ (∀ op c, q.slots[q.retire] = .done op c →
        shown 0x10 = 1 ∧ shown 0x11 = q.retire.val ∧ s.windowByte p 0x12 = op.tag
        ∧ (shown 0x13
            = match op.kind with | .read => 1 | .verify => 2 | .program => 3 | .eraseSector => 4 | .eraseBlock => 5)
        ∧ (shown 0x14
            = match c.status with
              | .ok => 1 | .denied => 2 | .notEnabled => 3 | .flashFail => 4 | .timeout => 5 | .mismatch => 6 | .flushed => 7)
        ∧ s.windowByte p 0x15 = c.detail ∧ (c.suspends ≤ 15 → shown 0x16 = c.suspends))
    ∧ (q.slots[q.retire].isDone = false → ∀ offset : BitVec 6, 0x10 ≤ offset.toNat → offset.toNat ≤ 0x16 → shown offset = 0)
    ∧ shown 0x1B = s.charge p
    ∧ ((s.aperture p).fifo.length ≤ 16 → shown 0x26 = (s.aperture p).fifo.length)
    ∧ (s.holdOf p = .none → shown 0x29 = 0)
    ∧ (s.holdOf p = .pending → s.windowByte p 0x29 = s.hold.duration)
    ∧ (s.holdOf p = .held → s.hold.timer = some 0 → shown 0x29 = 1)
    ∧ (s.holdOf p = .held → ∀ left n, s.hold.timer = some left → 1 ≤ n → n ≤ 255 → (n - 1) * 32000 < left →
        left ≤ n * 32000 → shown 0x29 = n)
    ∧ s.rdyLow p = (s.aperture p).stalled

/-- A composer is legal exactly as the table of kinds says, and a legal one is copied (from R6). -/
def Obligations.ComposerLegality : Prop :=
  (∀ (c : Composer) (capacity : Nat),
    let a := c.addr.toNat
    let n := if c.len = 0 then 256 else c.len.toNat
    ((c.operation capacity).isSome = true ↔
      ((c.kind = 1 ∨ c.kind = 2) ∧ a < capacity ∧ a + n ≤ capacity ∧ c.buf.toNat ≤ 15)
      ∨ (c.kind = 3 ∧ a < capacity ∧ a + n ≤ capacity ∧ c.buf.toNat ≤ 15 ∧ a % 256 + n ≤ 256)
      ∨ (c.kind = 4 ∧ a < capacity ∧ a % 4096 = 0)
      ∨ (c.kind = 5 ∧ a < capacity ∧ a % 65536 = 0))
    ∧ ∀ op, c.operation capacity = some op →
        op.kind.code = c.kind ∧ op.tag = c.tag ∧ op.addr = a
        ∧ (c.kind.toNat ≤ 3 → ∃ b : Fin 16, b.val = c.buf.toNat ∧ op.transfer = some { length := n, buffer := b })
        ∧ (4 ≤ c.kind.toNat → op.transfer = none)
        ∧ (capacity % 65536 = 0 → op.range.first = a ∧ op.range.first + op.range.length ≤ capacity))
  ∧ ∀ prof : Profile, prof.valid = true → prof.capacity % 65536 = 0

/-- POST is refused by the first of its four steps that fails (from R5). -/
def Obligations.PostRefusalsInOrder : Prop :=
  ∀ (p : Port) (s : State), s.accessTaken p = true →
    (s.profile.committed = none → exec (.post p) s = .next (s.setResult p .refusedState))
    ∧ ∀ prof, s.profile.committed = some prof →
        ((∀ n : Fin 8, (s.queue p).slots[n] ≠ .free) → exec (.post p) s = .next (s.setResult p .refusedFull))
        ∧ ∀ n : Fin 8, (s.queue p).slots[n] = .free →
            ((s.queue p).composer.operation prof.capacity = none → exec (.post p) s = .next (s.setResult p .refusedInvalid))
            ∧ ∀ op b, (s.queue p).composer.operation prof.capacity = some op → op.buffer = some b → s.holder b ≠ .port p →
                exec (.post p) s = .next (s.setResult p .refusedOwner)

/-- An accepted POST fills the slot at the post index and lends it the buffer (from R5, R7, R88). -/
def Obligations.PostFillsTheSlot : Prop :=
  ∀ (p : Port) (s : State) (prof : Profile) (n : Fin 8) (op : SlotOp), s.accessTaken p = true →
    s.profile.committed = some prof → (s.queue p).slots[n] = .free →
    (s.queue p).composer.operation prof.capacity = some op → (∀ b, op.buffer = some b → s.holder b = .port p) →
    let filled := s.modQueue p fun q => { q with slots := q.slots.set q.post (.queued op), post := q.post + 1 }
    (op.buffer = none → exec (.post p) s = .next (filled.consider.setResult p .accepted))
    ∧ ∀ b, op.buffer = some b →
        exec (.post p) s = .next ((filled.setHolder b (.lentSlot p (s.queue p).post)).consider.setResult p .accepted)
        ∧ ∀ r, (filled.setHolder b (.lentSlot p (s.queue p).post)).charge r = s.charge r

/-- RETIRE frees the DONE slot at the retire index, and is refused REFUSED_EMPTY otherwise (from R21). -/
def Obligations.RetireFreesTheOldestDone : Prop :=
  ∀ (p : Port) (s : State), s.accessTaken p = true →
    (∀ op c, (s.queue p).slots[(s.queue p).retire] = .done op c →
      exec (.retire p) s
        = .next ((s.modQueue p fun q => { q with slots := q.slots.set q.retire .free, retire := q.retire + 1 }).setResult p
            .accepted))
    ∧ ((∀ op c, (s.queue p).slots[(s.queue p).retire] ≠ .done op c) →
        exec (.retire p) s = .next (s.setResult p .refusedEmpty))

/-- START, STOP and RESUME move the queue state as the table says (from R8, R9, R10, R11). -/
def Obligations.QueueCommandTable : Prop :=
  ∀ (p : Port) (s : State), s.accessTaken p = true →
    let become := fun x : QueueState => s.modQueue p fun q => { q with state := x }
    ((s.queue p).state = .stopped →
        exec (.start p) s = .next ((become .running).consider.setResult p .accepted)
        ∧ exec (.stop p) s = .next (s.setResult p .accepted)
        ∧ exec (.resume p) s = .next (s.setResult p .refusedState))
    ∧ ((s.queue p).state = .running →
        exec (.start p) s = .next (s.setResult p .refusedState)
        ∧ (∀ (n : Fin 8) op, (s.queue p).slots[n] = .active op →
            exec (.stop p) s = .next ((become .stopping).setResult p .accepted))
        ∧ ((∀ (n : Fin 8) op, (s.queue p).slots[n] ≠ .active op) →
            exec (.stop p) s = .next ((become .stopped).setResult p .accepted))
        ∧ exec (.resume p) s = .next (s.setResult p .refusedState))
    ∧ ((s.queue p).state = .stopping →
        exec (.start p) s = .next (s.setResult p .refusedState)
        ∧ exec (.stop p) s = .next (s.setResult p .accepted)
        ∧ exec (.resume p) s = .next (s.setResult p .refusedState))
    ∧ ((s.queue p).state = .halted →
        exec (.start p) s = .next (s.setResult p .refusedState)
        ∧ exec (.stop p) s = .next ((become .stopped).setResult p .accepted)
        ∧ exec (.resume p) s = .next ((become .running).consider.setResult p .accepted))

/-- FLUSH completes every QUEUED slot as FLUSHED and returns its buffer (from R13, R89, R167). -/
def Obligations.FlushCompletesTheQueuedSlots : Prop :=
  ∀ (p : Port) (s : State), s.accessTaken p = true →
    ((s.queue p).state = .running ∨ (s.queue p).state = .stopping →
        exec (.flush p) s = .next (s.setResult p .refusedState))
    ∧ ((s.queue p).state = .stopped ∨ (s.queue p).state = .halted →
        ((∀ n : Fin 8, (s.queue p).slots[n].isQueued = false) → exec (.flush p) s = .next (s.setResult p .accepted))
        ∧ ∀ n : Fin 8, (s.queue p).slots[n].isQueued = true →
            ∃ slots : Vector Slot 8, ∃ holders : Vector Holder 16,
              exec (.flush p) s
                = .next
                    { s with
                      ports := s.ports.set p
                        { s.port p with
                          queue := { s.queue p with slots := slots, start := (s.queue p).post }
                          events := (s.events p).coalesce ((s.queue p).count Slot.isQueued)
                          result := .accepted }
                      pool := { s.pool with holders := holders } }
              ∧ (∀ (n : Fin 8) op, (s.queue p).slots[n] = .queued op →
                  slots[n] = .done op { status := .flushed, detail := 0, suspends := 0 })
              ∧ (∀ n : Fin 8, (s.queue p).slots[n].isQueued = false → slots[n] = (s.queue p).slots[n])
              ∧ (∀ (b : Fin 16) (m : Fin 8), s.holder b = .lentSlot p m → (s.queue p).slots[m].isQueued = true →
                  holders[b] = .port p)
              ∧ ∀ b : Fin 16,
                  (∀ m : Fin 8, s.holder b = .lentSlot p m → (s.queue p).slots[m].isQueued = false) →
                  holders[b] = s.holder b)

/-- Halt-on-error is written in STOPPED only, and nothing else but a reset changes it (from R12). -/
def Obligations.HaltModeIsFixedOutsideStopped : Prop :=
  (∀ (p : Port) (v : Byte) (s : State), s.accessTaken p = true →
      ((s.queue p).state = .stopped →
          exec (.qmodeWrite p v) s = .next (s.modQueue p fun q => { q with haltOnError := v.getLsbD 0 }))
      ∧ ((s.queue p).state ≠ .stopped → exec (.qmodeWrite p v) s = .next (s.setResult p .refusedState)))
  ∧ (∀ (p : Port) (s : State), s.windowByte p 0x0D = if (s.queue p).haltOnError then 1 else 0)
  ∧ (∀ (i : Instr) (p : Port) (s t : State), wellFormed i = true → exec i s = .next t →
      (t.queue p).haltOnError ≠ (s.queue p).haltOnError →
      ((s.queue p).state = .stopped ∧ ∃ v, i = .qmodeWrite p v)
        ∨ i = .softReset p ∨ i = .prstRecognised p ∨ i = .powerOnReset)
  ∧ ∀ (p : Port) (s : State),
      (s.accessTaken p = true → ∃ t, exec (.softReset p) s = .next t ∧ (t.queue p).haltOnError = false)
      ∧ (s.powerOnReset = false → (s.port p).inReset = false →
          ∃ t, exec (.prstRecognised p) s = .next t ∧ (t.queue p).haltOnError = false)
      ∧ ∃ t, exec .powerOnReset s = .next t ∧ (t.queue p).haltOnError = false

/-- CLAIM takes the lowest FREE buffer, filled with 0xFF, or is refused and marks the refusal (from R84, R85, R86,
R156). -/
def Obligations.ClaimTakesTheLowestFreeBuffer : Prop :=
  ∀ (p : Port) (s : State), s.accessTaken p = true →
    let refused := fun r : Result => s.modPort p fun x => { x with claimRefused := true, result := r }
    (s.profile.committed = none → s.quota p = 8)
    ∧ (∀ prof, s.profile.committed = some prof →
        s.quota .A = prof[(0x1B : Fin 29)].toNat ∧ s.quota .B = prof[(0x1C : Fin 29)].toNat)
    ∧ (s.quota p ≤ s.charge p → exec (.claim p) s = .next (refused .refusedQuota))
    ∧ (s.charge p < s.quota p → (∀ b, s.holder b ≠ .free) → exec (.claim p) s = .next (refused .refusedNoBuffer))
    ∧ (s.charge p < s.quota p → ∀ b, s.holder b = .free → (∀ c, c < b → s.holder c ≠ .free) →
        ∃ t, exec (.claim p) s = .next t
          ∧ t = { s with
                  ports := s.ports.set p
                    { s.port p with bufSel := BitVec.ofNat 8 b.val, bufOfs := 0, claimRefused := false, result := .accepted }
                  pool :=
                    { holders := s.pool.holders.set b (.port p), bytes := s.pool.bytes.set b (Vector.replicate 256 0xFF) } }
          ∧ t.charge p = s.charge p + 1 ∧ t.charge p.peer = s.charge p.peer)

/-- RELEASE frees the buffer the port holds and tells the ports that were refused a claim (from R84, R86, R87, R173).
-/
def Obligations.ReleaseFreesTheBuffer : Prop :=
  ∀ (p : Port) (s : State), s.accessTaken p = true →
    (16 ≤ (s.port p).bufSel.toNat → exec (.release p) s = .next (s.setResult p .refusedInvalid))
    ∧ ∀ b : Fin 16, (s.port p).bufSel.toNat = b.val →
        (s.holder b ≠ .port p → exec (.release p) s = .next (s.setResult p .refusedOwner))
        ∧ (s.holder b = .port p →
            let told := fun x : PortState =>
              if x.claimRefused then
                { x with claimRefused := false, events := if x.inReset then x.events else x.events.raise .bufferFreed }
              else x
            ∃ t, exec (.release p) s = .next t
              ∧ t = { s with
                      ports := (⟨told s.ports.a, told s.ports.b⟩ : Both PortState).set p
                        { told (s.port p) with result := .accepted }
                      pool := { s.pool with holders := s.pool.holders.set b .free } }
              ∧ t.charge p + 1 = s.charge p ∧ t.charge p.peer = s.charge p.peer)

/-- BUFDATA reads and writes one byte of a buffer the port holds, and is refused otherwise (from R91, R92, R93). -/
def Obligations.BufferWindowReachesHeldBuffers : Prop :=
  ∀ (p : Port) (v : Byte) (s : State), s.accessTaken p = true →
    (∀ b : Fin 16, (s.port p).bufSel.toNat = b.val → s.holder b = .port p →
        exec (.bufdataRead p) s
          = .next (s.modPort p fun x =>
              { x with dataOut := some (s.bufferByte b x.bufOfs.toFin), bufOfs := x.bufOfs + 1 })
        ∧ exec (.bufdataWrite p v) s
          = .next ((s.setBuffer b ((s.pool.bytes[b]).set (s.port p).bufOfs.toNat v (s.port p).bufOfs.isLt)).modPort p
              fun x => { x with bufOfs := x.bufOfs + 1 }))
    ∧ ((∀ b : Fin 16, (s.port p).bufSel.toNat = b.val → s.holder b ≠ .port p) →
        exec (.bufdataRead p) s = .next (s.modPort p fun x => { x with dataOut := some 0, result := .refusedOwner })
        ∧ exec (.bufdataWrite p v) s = .next (s.setResult p .refusedOwner))

/-- OPEN starts a stream at APADDR and CLOSE ends it; both advance the fill generation (from R99, R100, R102). -/
def Obligations.OpenAndCloseRestartTheStream : Prop :=
  ∀ (p : Port) (s : State), s.accessTaken p = true →
    let address := (s.aperture p).apaddr.toNat
    (s.profile.committed = none → exec (.openAperture p) s = .next (s.setResult p .refusedState))
    ∧ (∀ prof, s.profile.committed = some prof →
        (prof.capacity ≤ address → exec (.openAperture p) s = .next (s.setResult p .refusedInvalid))
        ∧ (address < prof.capacity →
            exec (.openAperture p) s
              = .next ((s.modAperture p fun a =>
                  { a with state := .opened, current := address, fetch := address, fifo := [],
                           generation := a.generation + 1 }).consider.setResult p .accepted)))
    ∧ exec (.closeAperture p) s
        = .next ((s.modAperture p fun a =>
            { a with state := .closed, current := 0, fetch := 0, fifo := [], generation := a.generation + 1 }).setResult p
              .accepted)

/-- A read of APDATA returns the oldest byte, stalls, or returns 0xFF with its cause (from R106, R107, R108, R164,
R179). -/
def Obligations.ApertureReadOutcomes : Prop :=
  ∀ (p : Port) (s : State), s.accessTaken p = true →
    let a := s.aperture p
    let refused := fun c : ApCause => s.modPort p fun x =>
      { x with dataOut := some 0xFF, events := { x.events with apCause := c }.raise .aperture }
    (∀ byte rest, a.fifo = byte :: rest →
        exec (.apdataRead p) s
          = .next ((s.modPort p fun x =>
              { x with
                dataOut := some byte
                aperture := { x.aperture with
                  fifo := rest
                  current := a.current + 1
                  state := if a.state = .opened ∧ rest = [] ∧ a.fetch = s.capacity then .ended else a.state } }).consider))
    ∧ (a.fifo = [] →
        (a.state = .closed → exec (.apdataRead p) s = .next (s.drive p (some 0xFF)))
        ∧ (a.state = .denied → exec (.apdataRead p) s = .next (refused .denied))
        ∧ (a.state = .ended → exec (.apdataRead p) s = .next (refused .ended))
        ∧ (a.state = .opened → a.policy = .noStall → exec (.apdataRead p) s = .next (refused .underrun))
        ∧ (a.state = .opened → a.policy = .stall →
            exec (.apdataRead p) s
              = .next (s.modPort p fun x =>
                  { x with
                    dataOut := none
                    aperture := { x.aperture with stalled := true, stallTimer := some (a.limit.toNat * 32) } })))

/-- An abandoned stall ends with no byte and no cause; an expired one with 0xFF and STALL_EXPIRED (from R108, R109,
R179, R180). Assumption 5 for READ_ABANDON without a stall and for an expiry loaded before its time, assumption 7 for
the data lines after an abandoned read. -/
def Obligations.StallsEndWithTheirByte : Prop :=
  ∀ (p : Port) (s : State),
    let released := fun (d : Option Byte) (t : State) => t.modPort p fun x =>
      { x with dataOut := d, aperture := { x.aperture with stalled := false, stallTimer := none } }
    ((s.aperture p).stalled = true → exec (.readAbandon p) s = .next (released none s))
    ∧ ((s.aperture p).stalled = false → exec (.readAbandon p) s = .next s)
    ∧ ((s.aperture p).stalled = true → (s.aperture p).stallTimer = some 0 →
        exec (.stallTimerExpiry p) s
          = .next ((released (some 0xFF) s).notify p fun e => { e with apCause := .stallExpired }.raise .aperture))
    ∧ ((s.aperture p).stallTimer ≠ some 0 → exec (.stallTimerExpiry p) s = .next s)

/-- HOLD_REQUEST is refused in order, or is PENDING, or HELD at once when nothing of the peer drains (from R134, R135,
R136). -/
def Obligations.HoldRequestOutcomes : Prop :=
  ∀ (p : Port) (s : State), s.accessTaken p = true →
    let d := (s.port p).holdTime
    (s.profile.committed = none → exec (.holdRequest p) s = .next (s.setResult p .refusedState))
    ∧ ∀ prof, s.profile.committed = some prof →
        (s.holdOf p ≠ .none → exec (.holdRequest p) s = .next (s.setResult p .refusedState))
        ∧ (s.holdOf p = .none →
            (d = 0 ∨ prof.num .maxHold < d.toNat → exec (.holdRequest p) s = .next (s.setResult p .refusedInvalid))
            ∧ (d ≠ 0 → d.toNat ≤ prof.num .maxHold →
                (s.holdOf p.peer ≠ .none → exec (.holdRequest p) s = .next (s.setResult p .refusedBusy))
                ∧ (s.holdOf p.peer = .none →
                    ((∃ r, s.seq.holds r ∧ r.source.port = p.peer) →
                      exec (.holdRequest p) s
                        = .next { s with
                            hold := { s.hold with state := s.hold.state.set p .pending, duration := d }
                            ports := s.ports.set p { s.port p with result := .accepted } })
                    ∧ ((∀ r, s.seq.holds r → r.source.port ≠ p.peer) →
                      exec (.holdRequest p) s
                        = .next { s with
                            hold :=
                              { state := s.hold.state.set p .held, duration := d, timer := some (d.toNat * 1000 * 32) }
                            ports := s.ports.set p
                              { s.port p with
                                result := .accepted
                                events := { s.events p with holdCause := .granted }.raise .hold } }))))

/-- HOLD_RENEW restarts the timer, HOLD_RELEASE and the expiry end the hold and free the peer (from R138, R139, R140).
Assumption 5 for an expiry loaded before its time, and assumption 11. -/
def Obligations.HoldRenewReleaseExpiry : Prop :=
  (∀ (p : Port) (s : State), s.accessTaken p = true →
    let d := if s.prof.num .maxHold < s.hold.duration.toNat then s.prof.field .maxHold else s.hold.duration
    let ended := { s with hold := { s.hold with state := s.hold.state.set p .none, timer := none } }
    (s.holdOf p = .held →
        exec (.holdRenew p) s
          = .next (({ s with hold := { s.hold with duration := d, timer := some (d.toNat * 1000 * 32) } } : State).setResult p
              .accepted))
    ∧ (s.holdOf p ≠ .held → exec (.holdRenew p) s = .next (s.setResult p .refusedState))
    ∧ (s.holdOf p ≠ .none → exec (.holdRelease p) s = .next (State.setResult ended.consider p .accepted))
    ∧ (s.holdOf p = .none → exec (.holdRelease p) s = .next (s.setResult p .refusedState)))
  ∧ (∀ (p : Port) (s : State), s.holdOf p = .held → s.holdOf p.peer = .none → s.hold.timer = some 0 →
      exec .holdTimerExpiry s
        = .next ((({ s with hold := { s.hold with state := s.hold.state.set p .none, timer := none } } : State).notify p
            fun e => { e with holdCause := .expired }.raise .hold).consider))
  ∧ ∀ s : State, s.hold.timer ≠ some 0 → exec .holdTimerExpiry s = .next s

/-- CLAIM_AUTHORITY is taken as the table of R157 says (from R157). -/
def Obligations.AuthorityHasOneHolder : Prop :=
  (∀ (p : Port) (s : State), s.accessTaken p = true →
      (s.profile.authority = none →
          exec (.claimAuthority p) s
            = .next (((({ s with profile := { s.profile with authority := some p } } : State).raise .A .config).raise .B
                .config).setResult p .accepted))
      ∧ (s.profile.authority = some p → exec (.claimAuthority p) s = .next (s.setResult p .accepted))
      ∧ (s.profile.authority = some p.peer → exec (.claimAuthority p) s = .next (s.setResult p .refusedBusy)))
  ∧ (∀ (p : Port) (s t : State), s.accessTaken p = true → s.accessTaken p.peer = true → s.profile.authority = none →
      exec (.claimAuthority p) s = .next t →
      (t.port p).result = .accepted ∧ exec (.claimAuthority p.peer) t = .next (t.setResult p.peer .refusedBusy))
  ∧ (∀ (p : Port) (s : State), (s.pstat p).getLsbD 6 = decide (s.profile.authority = some p))
  ∧ (∀ s : State, ∃ t, exec .powerOnReset s = .next t ∧ t.profile.authority = none)
  ∧ ∀ (i : Instr) (s t : State),
      let cleared := fun u : State => u.profile.staging = Vector.replicate 29 0
        ∧ u.regions.staging = Vector.replicate 8 0 ∧ u.regions.defaultsStaging = Vector.replicate 3 0
      (s.profile.authority = none → cleared s) → exec i s = .next t → t.profile.authority = none → cleared t

/-- RELEASE_AUTHORITY by the holder clears the three staging records and undoes no commit (from R121, R158). -/
def Obligations.AuthorityReleaseClearsStaging : Prop :=
  ∀ (p : Port) (s : State), s.accessTaken p = true →
    (s.profile.authority = some p →
      exec (.releaseAuthority p) s
        = .next (((({ s with
            profile := { s.profile with authority := none, staging := Vector.replicate 29 0 }
            regions := { s.regions with staging := Vector.replicate 8 0, defaultsStaging := Vector.replicate 3 0 } } :
              State).raise .A .config).raise .B .config).setResult p .accepted))
    ∧ (s.profile.authority ≠ some p → exec (.releaseAuthority p) s = .next (s.setResult p .refusedAuthority))

/-- A staging record is valid exactly when its fields and bit positions are (from R147, R152). -/
def Obligations.ProfileValidity : Prop :=
  (∀ prof : Profile,
    let f := fun i : Fin 29 => (prof[i]).toNat
    (prof.valid = true ↔
      (1 ≤ f 0x00 ∧ f 0x00 ≤ 5 ∧ f 0x01 ≤ 3)
      ∧ (f 0x02 ≠ 0 ∧ f 0x03 ≠ 0 ∧ f 0x04 ≠ 0 ∧ f 0x05 ≠ 0 ∧ f 0x06 ≠ 0 ∧ f 0x07 ≠ 0 ∧ f 0x0B ≠ 0)
      ∧ (f 0x0C ≤ 7 ∧ (f 0x0D ≤ 7 ∨ f 0x0D = 0xFF) ∧ (f 0x0E ≤ 7 ∨ f 0x0E = 0xFF))
      ∧ (f 0x10 ≤ 1 ∧ f 0x11 ≤ 15)
      ∧ (1 ≤ f 0x12 ∧ f 0x12 ≤ 63 ∧ f 0x13 ≠ 0 ∧ f 0x14 ≠ 0 ∧ f 0x15 ≠ 0 ∧ f 0x16 ≠ 0 ∧ f 0x17 ≠ 0 ∧ f 0x18 ≠ 0
          ∧ f 0x19 ≠ 0 ∧ f 0x1A ≠ 0)
      ∧ (1 ≤ f 0x1B ∧ f 0x1B ≤ 16 ∧ 1 ≤ f 0x1C ∧ f 0x1C ≤ 16)
      ∧ (f 0x10 = 1 → f 0x08 ≠ 0 ∧ f 0x09 ≠ 0)
      ∧ (f 0x0D ≤ 7 → f 0x0D ≠ f 0x0C) ∧ (f 0x0E ≤ 7 → f 0x0E ≠ f 0x0C)
      ∧ (f 0x0D ≤ 7 → f 0x0E ≤ 7 → f 0x0D ≠ f 0x0E)))
  ∧ Profile.valid (Vector.replicate 29 0) = false

/-- COMMIT_PROFILE is refused in order, or takes the staging record and starts initialization (from R112, R151, R153,
R52, R94, R130, R143). -/
def Obligations.ProfileCommitOutcomes : Prop :=
  ∀ (p : Port) (s : State), s.accessTaken p = true →
    (s.profile.authority ≠ some p → exec (.commitProfile p) s = .next (s.setResult p .refusedAuthority))
    ∧ (s.profile.authority = some p →
        let quiet := (s.seq.state = .offline ∨ s.seq.state = .idle ∨ s.seq.state = .fault) ∧ s.seq.suspended = none
          ∧ ∀ (q : Port) (n : Fin 8), (s.queue q).slots[n].waiting = none
        (¬ quiet → exec (.commitProfile p) s = .next (s.setResult p .refusedBusy))
        ∧ (quiet → s.profile.staging.valid = false → exec (.commitProfile p) s = .next (s.setResult p .refusedInvalid))
        ∧ (quiet → s.profile.staging.valid = true →
            let closed := fun x : PortState =>
              { x with
                aperture := { x.aperture with
                  state := .closed, current := 0, fetch := 0, fifo := [], generation := x.aperture.generation + 1
                  stalled := false
                  stallTimer := if x.aperture.stalled then none else x.aperture.stallTimer }
                dataOut := if x.aperture.stalled then some 0xFF else x.dataOut
                events :=
                  if x.inReset then x.events
                  else if x.aperture.stalled then
                    ({ x.events with apCause := .closedByCommit }.raise .aperture).raise .config
                  else x.events.raise .config }
            exec (.commitProfile p) s
              = .next (({ s with
                  ports := ⟨closed s.ports.a, closed s.ports.b⟩
                  profile := { s.profile with committed := some s.profile.staging }
                  seq := { s.seq with
                    state := .initializing
                    line := .called (if s.profile.staging.field .resetEnableOp = 0 then .resetDevice else .resetEnable) } } :
                    State).setResult p .accepted)))

/-- COMMIT_REGION and COMMIT_DEFAULTS are refused in order, or replace one record whole (from R122, R123, R124, R126).
-/
def Obligations.RegionCommitOutcomes : Prop :=
  ∀ (p : Port) (s : State), s.accessTaken p = true →
    let stage := s.regions.staging
    let first : BitVec 16 := stage[3] ++ stage[2]
    let last : BitVec 16 := stage[5] ++ stage[4]
    let bad := 15 < stage[0].toNat ∨ 4095 < first.toNat ∨ 4095 < last.toNat ∨ last.toNat < first.toNat
    let defaults := s.regions.defaultsStaging
    (s.profile.authority ≠ some p →
        exec (.commitRegion p) s = .next (s.setResult p .refusedAuthority)
        ∧ exec (.commitDefaults p) s = .next (s.setResult p .refusedAuthority))
    ∧ (s.profile.authority = some p →
        (bad → exec (.commitRegion p) s = .next (s.setResult p .refusedInvalid))
        ∧ (¬ bad → ∀ n : Fin 16, n.val = stage[0].toNat →
            (s.regions.entries[n].locked = true → exec (.commitRegion p) s = .next (s.setResult p .refusedLocked))
            ∧ (s.regions.entries[n].locked = false →
                exec (.commitRegion p) s
                  = .next (((({ s with
                      regions := { s.regions with
                        entries := s.regions.entries.set n
                          { valid := stage[1].getLsbD 0, first := first.setWidth 12, last := last.setWidth 12
                            rightsA := stage[6].setWidth 3, rightsB := stage[7].setWidth 3
                            locked := stage[1].getLsbD 1 } } } : State).raise .A .config).raise .B .config).setResult p
                              .accepted)))
        ∧ (s.regions.defaults.locked = true → exec (.commitDefaults p) s = .next (s.setResult p .refusedLocked))
        ∧ (s.regions.defaults.locked = false →
            exec (.commitDefaults p) s
              = .next (((({ s with
                  regions := { s.regions with
                    defaults :=
                      { rightsA := defaults[0].setWidth 3, rightsB := defaults[1].setWidth 3
                        locked := defaults[2].getLsbD 0 } } } : State).raise .A .config).raise .B .config).setResult p
                          .accepted)))

/-- CFGDATA reads and writes the position CFGIDX names, and CFGIDX advances in every case (from R120, R127, R149,
R150, R176, R187). -/
def Obligations.ConfigurationWindow : Prop :=
  (∀ (p : Port) (v : Byte) (s : State), s.accessTaken p = true →
    let x := (s.port p).cfgIdx
    let staging := x.toNat ≤ 0x1C ∨ (0x20 ≤ x.toNat ∧ x.toNat ≤ 0x2A)
    let advanced := fun t : State => t.modPort p fun y => { y with cfgIdx := x + 1 }
    exec (.cfgdataRead p) s = .next (advanced (s.drive p (some (s.cfgByte x))))
    ∧ (¬ staging → exec (.cfgdataWrite p v) s = .next (advanced s))
    ∧ (staging → s.profile.authority ≠ some p →
        exec (.cfgdataWrite p v) s = .next (advanced (s.setResult p .refusedAuthority)))
    ∧ (s.profile.authority = some p →
        (∀ i : Fin 29, x.toNat = i.val → exec (.cfgdataWrite p v) s
          = .next (advanced { s with profile := { s.profile with staging := s.profile.staging.set i v } }))
        ∧ (∀ i : Fin 8, x.toNat = 0x20 + i.val → exec (.cfgdataWrite p v) s
          = .next (advanced { s with regions := { s.regions with staging := s.regions.staging.set i v } }))
        ∧ ∀ i : Fin 3, x.toNat = 0x28 + i.val → exec (.cfgdataWrite p v) s
          = .next (advanced { s with regions := { s.regions with defaultsStaging := s.regions.defaultsStaging.set i v } })))
  ∧ ∀ (s : State) (x : Byte),
      (∀ i : Fin 29, x.toNat = i.val → s.cfgByte x = s.profile.staging[i])
      ∧ (∀ i : Fin 8, x.toNat = 0x20 + i.val → s.cfgByte x = s.regions.staging[i])
      ∧ (∀ i : Fin 3, x.toNat = 0x28 + i.val → s.cfgByte x = s.regions.defaultsStaging[i])
      ∧ (∀ i : Fin 29, x.toNat = 0x40 + i.val →
          (∀ prof, s.profile.committed = some prof → s.cfgByte x = prof[i])
          ∧ (s.profile.committed = none → s.cfgByte x = if i = 0x1B ∨ i = 0x1C then 8 else 0))
      ∧ (x = 0x78 → s.cfgByte x = s.regions.defaults.rightsA.setWidth 8)
      ∧ (x = 0x79 → s.cfgByte x = s.regions.defaults.rightsB.setWidth 8)
      ∧ (x = 0x7A → s.cfgByte x = if s.regions.defaults.locked then 1 else 0)
      ∧ (∀ n : Fin 16,
          let e := s.regions.entries[n]
          let at_ := fun i : Nat => x.toNat = 0x80 + 8 * n.val + i
          (at_ 0 → s.cfgByte x = BitVec.ofNat 8 n.val)
          ∧ (at_ 1 → s.cfgByte x = (if e.valid then 1 else 0) + (if e.locked then 2 else 0))
          ∧ (at_ 2 → s.cfgByte x = e.first.setWidth 8) ∧ (at_ 3 → s.cfgByte x = (e.first.extractLsb' 8 4).setWidth 8)
          ∧ (at_ 4 → s.cfgByte x = e.last.setWidth 8) ∧ (at_ 5 → s.cfgByte x = (e.last.extractLsb' 8 4).setWidth 8)
          ∧ (at_ 6 → s.cfgByte x = e.rightsA.setWidth 8) ∧ (at_ 7 → s.cfgByte x = e.rightsB.setWidth 8))
      ∧ ((0x1D ≤ x.toNat ∧ x.toNat ≤ 0x1F) ∨ (0x2B ≤ x.toNat ∧ x.toNat ≤ 0x3F) ∨ (0x5D ≤ x.toNat ∧ x.toNat ≤ 0x77)
          ∨ (0x7B ≤ x.toNat ∧ x.toNat ≤ 0x7F) → s.cfgByte x = 0)

/-- EVFLAGS clears the flags written as 1, EVENABLE replaces its enables, and INT# follows (from R162, R163, R183). -/
def Obligations.EventFlagWrites : Prop :=
  (∀ (p : Port) (v : Byte) (s : State), s.accessTaken p = true →
    ∃ flagsLow flagsHigh enablesLow enablesHigh : BitVec 9,
      exec (.evflagsWrite p false v) s
        = .next (s.modPort p fun x => { x with events := { x.events with flags := flagsLow } })
      ∧ exec (.evflagsWrite p true v) s
        = .next (s.modPort p fun x => { x with events := { x.events with flags := flagsHigh } })
      ∧ exec (.evenableWrite p false v) s
        = .next (s.modPort p fun x => { x with events := { x.events with enables := enablesLow } })
      ∧ exec (.evenableWrite p true v) s
        = .next (s.modPort p fun x => { x with events := { x.events with enables := enablesHigh } })
      ∧ ∀ f : Flag,
          flagsLow.getLsbD f.bit = ((s.events p).has f && !(f ≠ .config && v.getLsbD f.bit))
          ∧ flagsHigh.getLsbD f.bit = ((s.events p).has f && !(f = .config && v.getLsbD 0))
          ∧ enablesLow.getLsbD f.bit
              = (if f = .config then (s.events p).enables.getLsbD f.bit else v.getLsbD f.bit)
          ∧ enablesHigh.getLsbD f.bit
              = (if f = .config then v.getLsbD 0 else (s.events p).enables.getLsbD f.bit))
  ∧ (∀ (p : Port) (s : State), s.intLow p = true ↔
      s.powerOnReset = false ∧ (s.port p).inReset = false
        ∧ ∃ f : Flag, (s.events p).has f = true ∧ (s.events p).enables.getLsbD f.bit = true)
  ∧ ∀ (p : Port) (f : Flag) (v : Byte) (s : State), s.accessTaken p = true → f ≠ .config → v.getLsbD f.bit = true →
      (∃ t, exec (.evflagsWrite p false v) (s.raise p f) = .next t ∧ (t.events p).has f = false)
      ∧ ∃ t, exec (.evflagsWrite p false v) s = .next t ∧ ((t.raise p f).events p).has f = true

/-- Completions gather until the threshold or the holdoff, and then give one notice (from R166, R167, R168).
Assumption 5 for an expiry loaded before its time. -/
def Obligations.CompletionsAreCoalesced : Prop :=
  let notice := fun e : EventUnit =>
    { e with flags := e.flags ||| 1#9, pendingCount := 0, holdoffTimer := none }
  (∀ (e : EventUnit) (k : Nat),
    (e.holdoff = 0 → e.coalesce k = notice e)
    ∧ (e.threshold.toNat ≤ e.pendingCount + k → e.coalesce k = notice e)
    ∧ (e.holdoff ≠ 0 → e.pendingCount + k < e.threshold.toNat →
        (e.holdoffTimer = none →
          e.coalesce k
            = { e with pendingCount := e.pendingCount + k, holdoffTimer := some (e.holdoff.toNat * 10 * 32) })
        ∧ (e.holdoffTimer.isSome = true → e.coalesce k = { e with pendingCount := e.pendingCount + k })))
  ∧ ∀ (p : Port) (s : State),
      ((s.events p).holdoffTimer = some 0 →
        exec (.holdoffTimerExpiry p) s
          = .next (if (s.port p).inReset then s else s.modPort p fun x => { x with events := notice x.events }))
      ∧ ((s.events p).holdoffTimer ≠ some 0 → exec (.holdoffTimerExpiry p) s = .next s)

/-- CLEAR_COUNTERS and CLEAR_GLOBAL_COUNTERS clear their counters and nothing else (from R171). -/
def Obligations.CountersAreCleared : Prop :=
  ∀ (p : Port) (s : State), s.accessTaken p = true →
    let own := fun t : State => t.modPort p fun x =>
      { x with events := { x.events with errCnt := 0, denyCnt := 0 }, result := .accepted }
    let zero := fun t : State =>
      ({ t with counters := { suspCnt := 0, toCnt := 0, recFail := 0 } } : State).setResult p .accepted
    exec (.clearCounters p) s = .next (own s)
    ∧ (s.profile.authority = some p → exec (.clearGlobalCounters p) s = .next (zero s))
    ∧ (s.profile.authority ≠ some p → exec (.clearGlobalCounters p) s = .next (s.setResult p .refusedAuthority))
    ∧ (((own s).countError p).events p).errCnt = 1 ∧ (((own s).countDenial p).events p).denyCnt = 1
    ∧ ((own (s.countError p)).events p).errCnt = 0 ∧ ((own (s.countDenial p)).events p).denyCnt = 0
    ∧ ((zero s).countSuspension).counters = { suspCnt := 1, toCnt := 0, recFail := 0 }
    ∧ ((zero s).countTimeout).counters = { suspCnt := 0, toCnt := 1, recFail := 0 }
    ∧ ((zero s).countRecoveryFailure).counters = { suspCnt := 0, toCnt := 0, recFail := 1 }
    ∧ (zero s.countSuspension).counters = { suspCnt := 0, toCnt := 0, recFail := 0 }
    ∧ (zero s.countTimeout).counters = { suspCnt := 0, toCnt := 0, recFail := 0 }
    ∧ (zero s.countRecoveryFailure).counters = { suspCnt := 0, toCnt := 0, recFail := 0 }

/-- RECOVER is accepted in FAULT only, from either port (from R54, R52, R55). -/
def Obligations.RecoverStartsTheResetSequence : Prop :=
  ∀ (p : Port) (s : State), s.accessTaken p = true →
    (s.seq.state = .fault →
      exec (.recover p) s
        = .next ((s.modSeq fun q =>
            { q with state := .recovering
                     line := .called (if s.prof.field .resetEnableOp = 0 then .resetDevice else .resetEnable) }).setResult p
              .accepted))
    ∧ (s.seq.state ≠ .fault → exec (.recover p) s = .next (s.setResult p .refusedState))
    ∧ (s.seq.state = .fault → s.accessTaken p.peer = true →
        ∀ t, exec (.recover p) s = .next t → exec (.recover p.peer) t = .next (t.setResult p.peer .refusedState))

/-- A transaction called for begins after the gap, lasts its bits at FSCK, and sends opcode, address and data (from
R27, R28, R33, R34, R35, R37, R38, R39, R44, R49, R52). The clause with nothing called for, the two halves of an FSCK
period and FMOSI low while a status byte comes in are the model's (assumptions 5, 12 and 25), as is the time the row
takes (assumption 2). -/
def Obligations.LineTransactionsBegin : Prop :=
  (∀ (s : State) (t : Transaction), s.seq.line = .called t →
    let divided := fun bits : Nat =>
      (s.elapse s.seq.gap).modSeq fun q => { q with line := .onLine t (bits * 2 ^ (s.prof.num .sckDivider + 1)) }
    ((t = .writeEnable ∨ t = .suspend ∨ t = .resume ∨ t = .resetEnable ∨ t = .resetDevice) →
        exec .lineTransactionStart s = .next (divided 8))
    ∧ ((t = .writeEnableCheck ∨ t = .poll ∨ t = .handshake ∨ t = .finalRead) →
        exec .lineTransactionStart s = .next (divided 16))
    ∧ (∀ r, s.seq.active = some r →
        (t = .read → exec .lineTransactionStart s = .next (divided (32 + 8 * r.range.length)))
        ∧ (t = .command → r.kind = .slot .program →
            exec .lineTransactionStart s = .next (divided (32 + 8 * r.range.length)))
        ∧ (t = .command → r.kind = .slot .eraseSector ∨ r.kind = .slot .eraseBlock →
            exec .lineTransactionStart s = .next (divided 32)))
    ∧ ∃ u, exec .lineTransactionStart s = .next u ∧ u.seq.line = .onLine t (u.transactionCycles t))
  ∧ (∀ s : State, (∀ t, s.seq.line ≠ .called t) → exec .lineTransactionStart s = .next s)
  ∧ (∀ s : State,
    let op := fun f : ProfileField => s.prof.field f
    s.sentBytes .writeEnable = [op .writeEnableOp] ∧ s.sentBytes .suspend = [op .suspendOp]
    ∧ s.sentBytes .resume = [op .resumeOp] ∧ s.sentBytes .resetEnable = [op .resetEnableOp]
    ∧ s.sentBytes .resetDevice = [op .resetDeviceOp]
    ∧ (∀ t, t = .writeEnableCheck ∨ t = .poll ∨ t = .handshake ∨ t = .finalRead → s.sentBytes t = [op .readStatusOp])
    ∧ ∀ r, s.seq.active = some r →
        let address : List Byte :=
          [BitVec.ofNat 8 (r.range.first / 65536), BitVec.ofNat 8 (r.range.first / 256), BitVec.ofNat 8 r.range.first]
        s.sentBytes .read = op .readOp :: address
        ∧ (∀ b, r.kind = .slot .program → r.buffer = some b →
            s.sentBytes .command
              = op .pageProgramOp :: address ++ ((List.finRange 256).map fun i => s.bufferByte b i).take r.range.length)
        ∧ (r.kind = .slot .eraseSector → s.sentBytes .command = op .sectorEraseOp :: address)
        ∧ (r.kind = .slot .eraseBlock → s.sentBytes .command = op .blockEraseOp :: address))
  ∧ (∀ (bytes : List Byte) (k j : Nat), j < 8 →
      (lineBits bytes)[8 * k + j]? = bytes[k]?.map fun byte => byte.getLsbD (7 - j))
  ∧ ∀ s : State,
      ((∀ t left, s.seq.line ≠ .onLine t left) → s.linePins = { fcs := true, fsck := false, fmosi := false })
      ∧ ∀ t k cycle, cycle < 2 ^ (s.prof.num .sckDivider + 1) →
          let spent := k * 2 ^ (s.prof.num .sckDivider + 1) + cycle
          spent ≤ s.transactionCycles t → s.seq.line = .onLine t (s.transactionCycles t - spent) →
          s.linePins.fcs = false
          ∧ (s.linePins.fsck = true ↔ 2 ^ (s.prof.num .sckDivider + 1) ≤ 2 * cycle)
          ∧ (∀ bit, (lineBits (s.sentBytes t))[k]? = some bit → s.linePins.fmosi = bit)
          ∧ ((lineBits (s.sentBytes t)).length ≤ k → s.linePins.fmosi = false)

/-- The read transaction of a READ fills the buffer, and that of a VERIFY compares with it (from R33, R34).
Assumptions 2 and 13. -/
def Obligations.ReadAndVerifyComplete : Prop :=
  ∀ (data : List Byte) (s : State) (r : OpRecord) (b : Fin 16) (left : Nat),
    s.seq.state = .reading → s.seq.active = some r → r.buffer = some b → s.seq.line = .onLine .read left →
    data.length = r.range.length → data.length ≤ 256 →
    let s1 := s.lineEnded left
    (r.kind = .slot .read →
      ∃ new : Vector Byte 256,
        exec (.readTransactionEnd data) s = .next (((s1.setBuffer b new).complete r .ok 0).enterIdle)
        ∧ (∀ (i : Fin 256) v, data[i.val]? = some v → new[i] = v)
        ∧ ∀ i : Fin 256, data.length ≤ i.val → new[i] = s.bufferByte b i)
    ∧ (r.kind = .slot .verify →
        (∀ i : Fin 256, i.val < data.length → data[i.val]? ≠ some (s.bufferByte b i) →
            (∀ j : Fin 256, j < i → data[j.val]? = some (s.bufferByte b j)) →
            exec (.verifyEnd data) s
              = .next ((s1.complete { r with mismatch := some i.val } .mismatch (BitVec.ofNat 8 i.val)).enterIdle))
        ∧ ((∀ i : Fin 256, i.val < data.length → data[i.val]? = some (s.bufferByte b i)) →
            exec (.verifyEnd data) s = .next ((s1.complete { r with mismatch := none } .ok 0).enterIdle)))

/-- The end of a fill hands its bytes to the aperture, which keeps or discards them by generation (from R35, R50,
R105, R106, R108). Assumptions 2 and 13. -/
def Obligations.FillArrivesAtItsAperture : Prop :=
  (∀ (data : List Byte) (s : State) (r : OpRecord) (left : Nat),
    s.seq.state = .reading → s.seq.active = some r → r.kind = .fill → s.seq.line = .onLine .read left →
    data.length = r.range.length →
    let s1 := (s.lineEnded left).modSeq fun q => { q with active := none }
    (r.orphan = true →
        exec (.fillTransactionEnd data) s = .next ((s1.holdNotice r.source.port).enterIdle))
    ∧ (r.orphan = false →
        exec (.fillTransactionEnd data) s
          = .next (((s1.fillArrival r.source.port r.generation data).holdNotice r.source.port).enterIdle)))
  ∧ ∀ (s : State) (p : Port) (g : Option (BitVec 16)) (data : List Byte),
      let a := s.aperture p
      let ended := fun fifo : List Byte => fifo = [] ∧ a.fetch + data.length = s.capacity
      (g ≠ some a.generation → s.fillArrival p g data = s.modAperture p fun x => { x with inFlight := false })
      ∧ (g = some a.generation → a.state = .opened →
          (a.stalled = false →
            s.fillArrival p g data
              = s.modAperture p fun x =>
                  { x with inFlight := false, fifo := a.fifo ++ data, fetch := a.fetch + data.length
                           state := if ended (a.fifo ++ data) then .ended else .opened })
          ∧ ∀ first rest, a.stalled = true → data = first :: rest →
              s.fillArrival p g data
                = s.modPort p fun x =>
                    { x with
                      dataOut := some first
                      aperture := { x.aperture with
                        inFlight := false, stalled := false, stallTimer := none
                        current := a.current + 1, fifo := a.fifo ++ rest, fetch := a.fetch + data.length
                        state := if ended (a.fifo ++ rest) then .ended else .opened } })

/-- WRITE_ENABLE is followed by the latch check, or by the command transaction where no latch is named (from R37).
Assumption 2 for the time the rows take. -/
def Obligations.WriteEnableIsChecked : Prop :=
  ∀ (s : State) (r : OpRecord) (left : Nat) (status : Byte), s.seq.state = .writing → s.seq.active = some r →
    let s1 := s.lineEnded left
    let latch := s.prof.field .latchBit
    (s.seq.line = .onLine .writeEnable left →
      (latch = 0xFF → exec .writeEnableEnd s = .next (s1.callLine .command))
      ∧ (latch ≠ 0xFF → exec .writeEnableEnd s = .next (s1.callLine .writeEnableCheck)))
    ∧ (s.seq.line = .onLine .writeEnableCheck left →
        (status.getLsbD latch.toNat = true → exec (.writeEnableCheck status) s = .next (s1.callLine .command))
        ∧ (status.getLsbD latch.toNat = false →
            exec (.writeEnableCheck status) s = .next ((s1.complete r .notEnabled 0).enterIdle)))

/-- The command transaction and the RESUME end in BUSYWAIT, and the poll timer calls for a poll (from R38, R39, R41,
R49). Assumption 2 for the time the rows take. -/
def Obligations.BusyPhaseBeginsAndPolls : Prop :=
  ∀ (s : State) (r : OpRecord) (left : Nat), s.seq.active = some r → s.prof.num .minRun ≠ 0 →
    let busy := fun r' : OpRecord => (s.lineEnded left).modSeq fun q =>
      { q with active := some r', state := .busyWait, pollTimer := some (s.prof.num .pollInterval * 8 * 32) }
    (s.seq.state = .writing → s.seq.line = .onLine .command left →
        exec .commandTransactionEnd s = .next (busy { r with busyTime := 0, runTime := 0 }))
    ∧ (s.seq.state = .resuming → s.seq.line = .onLine .resume left →
        exec .resumeTransactionEnd s = .next (busy { r with runTime := 0 }))
    ∧ (s.seq.state = .busyWait → s.seq.pollTimer = some left →
        exec .pollTimerExpiry s
          = .next ((s.elapse left).modSeq fun q => { q with pollTimer := none, line := .called .poll }))

/-- A poll completes the operation, times it out, or lets it go on, in that order (from R39, R40, R42, R43).
Assumptions 2 and 13. -/
def Obligations.PollDecidesTheOperation : Prop :=
  ∀ (s : State) (r : OpRecord) (k : Kind) (left : Nat) (status : Byte),
    s.seq.state = .busyWait → s.seq.active = some r → r.kind = .slot k → s.seq.line = .onLine .poll left →
    let s1 := s.lineEnded left
    let r1 := { r with busyTime := r.busyTime + left, runTime := r.runTime + left }
    let dropped := { s1 with arbiter := { s.arbiter with suspendRequest := false } }
    let timeout := match k with
      | .program => s.prof.num .programTimeout * 1000 * 32
      | .eraseSector => s.prof.num .sectorTimeout * 10000 * 32
      | .eraseBlock => s.prof.num .blockTimeout * 100000 * 32
      | .read | .verify => 0
    (status.getLsbD (s.prof.num .busyBit) = false →
      (status &&& s.prof.field .errorMask ≠ 0 →
        exec (.pollEnd status) s = .next ((State.complete dropped r1 .flashFail status).enterIdle))
      ∧ (status &&& s.prof.field .errorMask = 0 →
        exec (.pollEnd status) s = .next ((State.complete dropped r1 .ok 0).enterIdle)))
    ∧ (status.getLsbD (s.prof.num .busyBit) = true →
      (timeout ≤ r1.busyTime →
        exec (.pollEnd status) s
          = .next (((((State.complete dropped r1 .timeout 0).setSeqState .fault).countTimeout).raise .A .fault).raise .B
              .fault))
      ∧ (r1.busyTime < timeout →
          (s.arbiter.suspendRequest = true →
            exec (.pollEnd status) s
              = .next (State.modSeq dropped fun q =>
                  { q with state := .suspending, pollTimer := none, line := .called .suspend, handshakeReads := 0 }))
          ∧ (s.arbiter.suspendRequest = false →
              exec (.pollEnd status) s
                = .next (s1.modSeq fun q => { q with pollTimer := some (s.prof.num .pollInterval * 8 * 32) }))))

/-- A suspend request is raised exactly when every condition of the table holds (from R43, R74, R75). Assumption 2 for
the time the row takes. -/
def Obligations.SuspendRequestIsRaisedAndTaken : Prop :=
  (∀ s : State, s.arbiter.suspendRequest = false →
    let conditions := s.seq.state = .busyWait ∧ s.prof.field .suspendSupported = 1
      ∧ (∃ r, s.seq.active = some r ∧ r.kind.isWrite = true ∧ r.suspends < s.prof.num .maxSuspends
          ∧ r.unsuspendable = false ∧ s.prof.num .minRun * 50 * 32 ≤ r.runTime)
      ∧ ∃ p, s.offers (.fill p) = true ∨ s.offers (.readHead p) = true
    (conditions →
      (s.seq.pollTimer = none →
        s.evaluateSuspend = { s with arbiter := { s.arbiter with suspendRequest := true } })
      ∧ (s.seq.pollTimer.isSome = true →
        s.evaluateSuspend
          = s.modSeq fun q =>
              { q with state := .suspending, pollTimer := none, line := .called .suspend, handshakeReads := 0 }))
    ∧ (¬ conditions → s.evaluateSuspend = s))
  ∧ ∀ (s : State) (r : OpRecord), s.seq.active = some r → s.seq.state = .busyWait →
      exec .runTimeReachesMinimum s
        = .next (s.elapse (s.prof.num .minRun * 50 * 32 - r.runTime)).evaluateSuspend

/-- The handshake confirms, finds the operation finished, reads again or fails; the dwell makes the resume due (from
R44, R45, R46, R47, R48, R78). That DWELL_TIMER_EXPIRY with the timer not running changes nothing is the model's
(assumption 5); assumptions 2 and 13 for the time a row takes and the byte it brings. -/
def Obligations.SuspendHandshakeAndDwell : Prop :=
  (∀ (s : State) (r : OpRecord) (left : Nat) (status : Byte), s.seq.state = .suspending → s.seq.active = some r →
    let s1 := s.lineEnded left
    let r1 := { r with busyTime := r.busyTime + left, runTime := r.runTime + left }
    let reads := fun f : Sequencer → Sequencer =>
      s1.modSeq fun q => f { q with handshakeReads := s.seq.handshakeReads + 1 }
    let latency := some (s.prof.num .suspendLatency * 32)
    let finished := s.prof.field .suspendedBit ≠ 0xFF ∧ status.getLsbD (s.prof.num .suspendedBit) = false
    (s.seq.line = .onLine .suspend left →
      exec .suspendTransactionEnd s = .next (s1.modSeq fun q => { q with latencyTimer := latency }))
    ∧ (s.seq.latencyTimer = some left →
      exec .latencyTimerExpiry s
        = .next ((s.elapse left).modSeq fun q => { q with latencyTimer := none, line := .called .handshake }))
    ∧ (s.seq.line = .onLine .handshake left →
      (status.getLsbD (s.prof.num .busyBit) = true →
        (s.seq.handshakeReads + 1 < 8 →
          exec (.handshakeReadEnd status) s = .next (reads fun q => { q with latencyTimer := latency }))
        ∧ (8 ≤ s.seq.handshakeReads + 1 →
          exec (.handshakeReadEnd status) s
            = .next (reads fun q =>
                { q with active := some { r1 with unsuspendable := true }, state := .busyWait
                         pollTimer := some (s.prof.num .pollInterval * 8 * 32) })))
      ∧ (status.getLsbD (s.prof.num .busyBit) = false → finished →
        exec (.handshakeReadEnd status) s
          = .next (((reads id).complete r1
              (if status &&& s.prof.field .errorMask = 0 then .ok else .flashFail)
              (if status &&& s.prof.field .errorMask = 0 then 0 else status)).enterIdle))
      ∧ (status.getLsbD (s.prof.num .busyBit) = false → ¬ finished →
        exec (.handshakeReadEnd status) s
          = .next (((reads fun q =>
              { q with active := none
                       suspended := some { op := { r1 with suspends := r.suspends + 1 }, dwell := 0 }
                       dwellTimer := some (s.prof.num .maxDwell * 100 * 32) }).countSuspension).enterIdle))))
  ∧ (∀ (s : State) (x : Suspended) (left : Nat), s.seq.dwellTimer = some left → s.seq.suspended = some x →
      let due : State :=
        { (s.elapse left).modSeq fun q => { q with dwellTimer := none } with
          arbiter := { s.arbiter with resumeDue := true } }
      (s.seq.state ≠ .idle → exec .dwellTimerExpiry s = .next due)
      ∧ (s.seq.state = .idle → exec .dwellTimerExpiry s = .next due.grantPoint))
  ∧ ∀ s : State, s.seq.dwellTimer = none → exec .dwellTimerExpiry s = .next s

/-- Initialization and recovery run RESET_ENABLE, RESET_DEVICE, the delay and one status read (from R52, R55, R154,
R165, R173). Assumptions 2 and 13. -/
def Obligations.ResetSequenceRuns : Prop :=
  ∀ (s : State) (left : Nat) (status : Byte),
    let s1 := s.lineEnded left
    let both := fun (f : EventUnit → EventUnit) (t : State) => (t.notify .A f).notify .B f
    let fault := fun t : State =>
      ({ t with counters := { t.counters with recFail := if t.counters.recFail = 255 then 255 else t.counters.recFail + 1 } } :
        State).modSeq fun q => { q with state := .fault }
    let busy := status.getLsbD (s.prof.num .busyBit) = true
    (s.seq.state = .initializing ∨ s.seq.state = .recovering →
      (s.seq.line = .onLine .resetEnable left → exec .resetEnableEnd s = .next (s1.callLine .resetDevice))
      ∧ (s.seq.line = .onLine .resetDevice left →
          exec .resetDeviceEnd s
            = .next (s1.modSeq fun q => { q with recoveryTimer := some (s.prof.num .recoveryDelay * 10 * 32) }))
      ∧ (s.seq.recoveryTimer = some left →
          exec .recoveryDelayExpiry s
            = .next ((s.elapse left).modSeq fun q => { q with recoveryTimer := none, line := .called .finalRead })))
    ∧ (s.seq.state = .initializing → s.seq.line = .onLine .finalRead left →
        (¬ busy → exec (.initializationEnd status) s = .next (both (EventUnit.raise .config) s1).enterIdle)
        ∧ (busy → exec (.initializationEnd status) s
            = .next (both (EventUnit.raise .fault) (both (EventUnit.raise .config) (fault s1)))))
    ∧ (s.seq.state = .recovering → s.seq.line = .onLine .finalRead left →
        (¬ busy → exec (.recoveryEnd status) s
          = .next (both (fun e => { e with recCause := .ok }.raise .recovery) s1).enterIdle)
        ∧ (busy → exec (.recoveryEnd status) s
            = .next (both (fun e => { e with recCause := .failed }.raise .recovery) (fault s1))))

/-- A port reset leaves its port at the reset values, orphans its operations and notifies the peer (from R181, R182,
R183, R185, R25, R51, R95, R113, R141, R159, R172). Assumptions 7 and 11 for the values named, assumption 5 for
PORT_IN_RESET_END in power-on reset. -/
def Obligations.PortReset : Prop :=
  (∀ (p : Port) (s : State),
    (s.accessTaken p = true → exec (.softReset p) s = .next (s.portReset p).consider)
    ∧ (s.powerOnReset = false → (s.port p).inReset = false →
        exec (.prstRecognised p) s = .next ((s.portReset p).modPort p fun x => { x with inReset := true }).consider)
    ∧ (s.powerOnReset = true ∨ (s.port p).inReset = true → exec (.prstRecognised p) s = .next s)
    ∧ (s.powerOnReset = false → exec (.portInResetEnd p) s = .next (s.modPort p fun x => { x with inReset := false }))
    ∧ (s.powerOnReset = true → exec (.portInResetEnd p) s = .next s))
  ∧ ∀ (p : Port) (s : State),
      let t := s.portReset p
      let e := s.events p.peer
      let e' := t.events p.peer
      let freed := ∃ b, s.holder b ≠ .free ∧ t.holder b = .free
      let mark := fun r : OpRecord => { r with orphan := r.orphan || r.source.port = p }
      t.port p
          = { PortState.reset with
              aperture := { Aperture.reset with generation := (s.aperture p).generation + 1 }
              inReset := (s.port p).inReset
              dataOut := if (s.aperture p).stalled then some 0xFF else none }
      ∧ t.port p.peer = { s.port p.peer with events := e', claimRefused := (t.port p.peer).claimRefused }
      ∧ (freed → (t.port p.peer).claimRefused = false)
      ∧ (¬ freed → (t.port p.peer).claimRefused = (s.port p.peer).claimRefused)
      ∧ e' = { e with flags := e'.flags }
      ∧ ((s.port p.peer).inReset = true → e' = e)
      ∧ ((s.port p.peer).inReset = false →
          e'.has .peerReset = true
          ∧ (e'.has .config = true ↔ e.has .config = true ∨ s.profile.authority = some p)
          ∧ (e'.has .bufferFreed = true ↔ e.has .bufferFreed = true ∨ (freed ∧ (s.port p.peer).claimRefused = true))
          ∧ ∀ f : Flag, f ≠ .peerReset → f ≠ .config → f ≠ .bufferFreed → e'.has f = e.has f)
      ∧ t.pool.bytes = s.pool.bytes
      ∧ (∀ b, t.holder b =
          match s.holder b with
          | .port q => if q = p then .free else .port q
          | .lentSlot q n =>
            if q = p then (if (s.queue p).slots[n].isActive = true then .lentOrphan else .free) else .lentSlot q n
          | .free => .free
          | .lentOrphan => .lentOrphan)
      ∧ t.seq = { s.seq with active := s.seq.active.map mark
                             suspended := s.seq.suspended.map fun x => { x with op := mark x.op } }
      ∧ (s.holdOf p = .none → t.hold = s.hold)
      ∧ (s.holdOf p ≠ .none → t.hold = { state := s.hold.state.set p .none, duration := 0, timer := none })
      ∧ (s.profile.authority ≠ some p → t.profile = s.profile ∧ t.regions = s.regions)
      ∧ (s.profile.authority = some p →
          t.profile = { s.profile with authority := none, staging := Vector.replicate 29 0 }
          ∧ t.regions
              = { s.regions with staging := Vector.replicate 8 0, defaultsStaging := Vector.replicate 3 0 })
      ∧ t.arbiter = s.arbiter ∧ t.counters = s.counters ∧ t.powerOnReset = s.powerOnReset

/-- Power-on reset gives every block its power-on values, and its end gives the ports their pins (from R184, R24, R29,
R57, R96, R114, R116, R128, R131, R148, R157, R174). That POWER_ON_RESET_END outside power-on reset changes nothing
(assumption 5), that POWER_ON_RESET keeps the waiting commands and the tick counter (assumptions 14 and 17), and what
State.reset stands for (assumption 10) are the model's. -/
def Obligations.PowerOnReset : Prop :=
  (∀ s : State,
    exec .powerOnReset s = .next { State.reset with powerOnReset := true, ticks := s.ticks, pending := s.pending })
  ∧ (∀ (lowA lowB : Bool) (s : State),
      (s.powerOnReset = true →
        exec (.powerOnResetEnd lowA lowB) s
          = .next { s with powerOnReset := false
                           ports := ⟨{ s.ports.a with inReset := lowA }, { s.ports.b with inReset := lowB }⟩ })
      ∧ (s.powerOnReset = false → exec (.powerOnResetEnd lowA lowB) s = .next s))
  ∧ (∀ p : Port,
      let q := State.reset.queue p
      let a := State.reset.aperture p
      let e := State.reset.events p
      let x := State.reset.port p
      (∀ n : Fin 8, q.slots[n] = .free) ∧ q.retire = 0 ∧ q.start = 0 ∧ q.post = 0 ∧ q.state = .stopped
      ∧ q.haltOnError = false ∧ q.composer = { kind := 0, tag := 0, addr := 0, len := 0, buf := 0 }
      ∧ a.state = .closed ∧ a.current = 0 ∧ a.fetch = 0 ∧ a.fifo = [] ∧ a.generation = 0 ∧ a.inFlight = false
      ∧ a.stalled = false ∧ a.policy = .stall ∧ a.limit = 100 ∧ a.stallTimer = none ∧ a.apaddr = 0
      ∧ e.flags = 0 ∧ e.enables = 0 ∧ e.apCause = .none ∧ e.holdCause = .none ∧ e.recCause = .none ∧ e.threshold = 1
      ∧ e.holdoff = 0 ∧ e.pendingCount = 0 ∧ e.holdoffTimer = none ∧ e.errCnt = 0 ∧ e.denyCnt = 0
      ∧ x.claimRefused = false ∧ x.bufSel = 0 ∧ x.bufOfs = 0 ∧ x.holdTime = 0 ∧ x.cfgIdx = 0 ∧ x.result = .none
      ∧ State.reset.holdOf p = .none ∧ State.reset.charge p = 0 ∧ State.reset.quota p = 8)
  ∧ (∀ b i, State.reset.holder b = .free ∧ State.reset.bufferByte b i = 0)
  ∧ (let q := State.reset.seq
     q.state = .offline ∧ q.active = none ∧ q.suspended = none ∧ q.line = .idle ∧ q.pollTimer = none
     ∧ q.latencyTimer = none ∧ q.dwellTimer = none ∧ q.recoveryTimer = none)
  ∧ State.reset.arbiter = { readPointer := .A, writePointer := .A, suspendRequest := false, resumeDue := false }
  ∧ (∀ i : Fin 16, State.reset.regions.entries[i]
      = { valid := false, first := 0, last := 0, rightsA := 0, rightsB := 0, locked := false })
  ∧ State.reset.regions.defaults = { rightsA := 1, rightsB := 1, locked := false }
  ∧ (∀ i : Fin 8, State.reset.regions.staging[i] = 0) ∧ (∀ i : Fin 3, State.reset.regions.defaultsStaging[i] = 0)
  ∧ (∀ i : Fin 29, State.reset.profile.staging[i] = 0)
  ∧ State.reset.profile.committed = none ∧ State.reset.profile.authority = none ∧ State.reset.hold.timer = none
  ∧ State.reset.counters = { suspCnt := 0, toCnt := 0, recFail := 0 }

/-- A completion makes its slot DONE, an orphan only frees its buffer, and a drained hold is granted (from R16, R17,
R26, R50, R86, R89, R90, R136, R167, R169). -/
def Obligations.CompletionReachesItsOwner : Prop :=
  (∀ (s : State) (p : Port) (n : Fin 8) (op : SlotOp) (c : Completion),
    (s.queue p).slots[n] = .active op ∨ (s.queue p).slots[n] = .queued op →
    let t := s.finishSlot p n c
    let q := s.queue p
    let e := (s.events p).coalesce 1
    let halts := q.state = .running ∧ c.status.isError = true ∧ q.haltOnError = true
    t.queue p
        = { q with slots := q.slots.set n (.done op c)
                   state := if halts then .halted else if q.state = .stopping then .stopped else q.state }
    ∧ (op.buffer = none → t.pool = s.pool)
    ∧ (∀ b, op.buffer = some b → t.pool = { s.pool with holders := s.pool.holders.set b (.port p) })
    ∧ ((s.port p).inReset = true → t.events p = s.events p)
    ∧ ((s.port p).inReset = false → t.events p
        = { e with flags := if halts then e.flags ||| 2#9 else e.flags
                   errCnt := if c.status.isError then (if e.errCnt = 255 then 255 else e.errCnt + 1) else e.errCnt })
    ∧ t = { s with pool := t.pool
                   ports := s.ports.set p { s.port p with queue := t.queue p, events := t.events p } })
  ∧ (∀ c : Status, c.isError = true ↔ c ≠ .ok ∧ c ≠ .flushed)
  ∧ (∀ (s : State) (r : OpRecord) (status : Status) (detail : Byte),
      let s1 := s.modSeq fun q => { q with active := none }
      (∀ p n, r.orphan = false → r.source = .queue p n →
        s.complete r status detail
          = (s1.finishSlot p n { status := status, detail := detail, suspends := r.suspends }).holdNotice p)
      ∧ (r.orphan = true →
          (r.buffer = none → s.complete r status detail = s1.holdNotice r.source.port)
          ∧ ∀ b, r.buffer = some b →
              s.complete r status detail = ((s1.setHolder b .free).buffersFreed).holdNotice r.source.port))
  ∧ (∀ s : State,
      let t := s.buffersFreed
      t = { s with ports := t.ports }
      ∧ ∀ p, t.port p = { s.port p with events := t.events p, claimRefused := false }
          ∧ ((s.port p).claimRefused = false ∨ (s.port p).inReset = true → t.events p = s.events p)
          ∧ ((s.port p).claimRefused = true → (s.port p).inReset = false →
              t.events p = { s.events p with flags := (s.events p).flags ||| 0x80#9 }))
  ∧ ∀ (s : State) (p : Port),
      let left := (∀ r, s.seq.active = some r → r.source.port ≠ p)
        ∧ ∀ x, s.seq.suspended = some x → x.op.source.port ≠ p
      let held := { s with hold := { s.hold with
        state := s.hold.state.set p.peer .held, timer := some (s.hold.duration.toNat * 1000 * 32) } }
      (s.holdOf p.peer = .pending → left →
        s.holdNotice p = State.notify held p.peer fun e => { e with holdCause := .granted, flags := e.flags ||| 8#9 })
      ∧ (s.holdOf p.peer ≠ .pending ∨ ¬ left → s.holdNotice p = s)

/-- The lowest valid entry covering a sector decides it, and the start check reports the lowest denied sector (from
R115, R117, R118, R70). -/
def Obligations.LookupAndStartCheck : Prop :=
  (∀ (t : RegionTable) (sector : Nat),
    (∀ i : Fin 16, t.entries[i].covers sector = true → (∀ j, j < i → t.entries[j].covers sector = false) →
      t.rightsAt .A sector = t.entries[i].rightsA ∧ t.rightsAt .B sector = t.entries[i].rightsB
      ∧ t.deciderNumber sector = i.val)
    ∧ ((∀ i : Fin 16, t.entries[i].covers sector = false) →
        t.rightsAt .A sector = t.defaults.rightsA ∧ t.rightsAt .B sector = t.defaults.rightsB
        ∧ t.deciderNumber sector = 16))
  ∧ (∀ (e : RegionEntry) (sector : Nat),
      e.covers sector = true ↔ e.valid = true ∧ e.first.toNat ≤ sector ∧ sector ≤ e.last.toNat)
  ∧ (∀ (rights : BitVec 3), hasRight rights .read = rights.getLsbD 0 ∧ hasRight rights .program = rights.getLsbD 1
      ∧ hasRight rights .erase = rights.getLsbD 2)
  ∧ (Kind.read.right = .read ∧ Kind.verify.right = .read ∧ Kind.program.right = .program
      ∧ Kind.eraseSector.right = .erase ∧ Kind.eraseBlock.right = .erase)
  ∧ ∀ (s : State) (p : Port) (right : Right) (r : Range), 1 ≤ r.length →
      let allowed := fun a : Nat => hasRight (s.regions.rightsAt p (a / 4096)) right = true
      (s.startCheck p right r = none ↔ ∀ a, r.first ≤ a → a < r.first + r.length → allowed a)
      ∧ ∀ a, r.first ≤ a → a < r.first + r.length → ¬ allowed a →
          (∀ b, r.first ≤ b → b < a → b / 4096 < a / 4096 → allowed b) →
          s.startCheck p right r = some (s.regions.deciderNumber (a / 4096))

/-- A candidate is eligible exactly as its conditions say, and a fill is sized by its four limits (from R60, R61, R62,
R63, R64, R65, R66). -/
def Obligations.EligibilityAndFillSize : Prop :=
  ∀ (s : State) (p : Port),
    let writes := fun r : Range =>
      (∃ w, s.seq.active = some w ∧ w.kind.isWrite = true ∧ r = w.range) ∨ ∃ x, s.seq.suspended = some x ∧ r = x.op.range
    let inside := fun (r : Range) (a : Nat) => r.first ≤ a ∧ a < r.first + r.length
    let head := fun op : SlotOp => (s.queue p).slots[(s.queue p).start] = .queued op ∧ (s.queue p).state = .running
      ∧ (∀ (n : Fin 8) x, (s.queue p).slots[n] ≠ .active x) ∧ s.holdOf p.peer = .none
    let a := s.aperture p
    (s.offers .resume = true ↔ ∃ x, s.seq.suspended = some x)
    ∧ (s.offers (.fill p) = true ↔
        a.state = .opened ∧ a.fifo.length ≤ 8 ∧ a.inFlight = false ∧ a.fetch < s.capacity ∧ s.holdOf p.peer = .none
        ∧ ∀ r, writes r → ¬ inside r a.fetch)
    ∧ (s.offers (.readHead p) = true ↔
        ∃ op, head op ∧ (op.kind = .read ∨ op.kind = .verify) ∧ ∀ r, writes r → ∀ b, ¬ (inside op.range b ∧ inside r b))
    ∧ (s.offers (.writeHead p) = true ↔
        ∃ op, head op ∧ (op.kind = .program ∨ op.kind = .eraseSector ∨ op.kind = .eraseBlock) ∧ s.seq.suspended = none)
    ∧ (∀ op : SlotOp,
        (op.kind = .eraseSector → op.range = { first := op.addr, length := 4096 })
        ∧ (op.kind = .eraseBlock → op.range = { first := op.addr, length := 65536 })
        ∧ ∀ n b, op.kind = .read ∨ op.kind = .verify ∨ op.kind = .program →
            op.transfer = some { length := n, buffer := b } → op.range = { first := op.addr, length := n })
    ∧ (s.offers (.fill p) = true →
        let plain := min (16 - a.fifo.length) (min (4096 - a.fetch % 4096) (s.capacity - a.fetch))
        ((∀ x, s.seq.suspended = some x → x.op.range.first ≤ a.fetch) → s.fillLength p = plain)
        ∧ (∀ x, s.seq.suspended = some x → a.fetch < x.op.range.first →
            s.fillLength p = min plain (x.op.range.first - a.fetch))
        ∧ 1 ≤ s.fillLength p ∧ s.fillLength p ≤ 16
        ∧ (a.fetch + s.fillLength p - 1) / 4096 = a.fetch / 4096 ∧ a.fetch + s.fillLength p ≤ s.capacity
        ∧ ∀ x, s.seq.suspended = some x → ∀ i, i < s.fillLength p → ¬ inside x.op.range (a.fetch + i))

/-- A grant point takes the first eligible candidate of the grant order (from R67, R68, R69, R58). -/
def Obligations.GrantOrder : Prop :=
  ∀ s : State,
    let r := s.arbiter.readPointer
    let w := s.arbiter.writePointer
    let resumable := ∃ x, s.seq.suspended = some x
    let stalled := fun p : Port => (s.aperture p).stalled = true ∧ s.offers (.fill p) = true
    let takes := fun c : Candidate => s.choose = some c
    let reads := fun p : Port => s.offers (.fill p) = true ∨ s.offers (.readHead p) = true
    (s.choose = none ↔ ∀ c, s.offers c = false)
    ∧ (∀ c, takes c → s.offers c = true)
    ∧ (s.arbiter.resumeDue = true → resumable → takes .resume)
    ∧ (s.arbiter.resumeDue = false ∨ ¬ resumable →
        (stalled r → takes (.fill r))
        ∧ (¬ stalled r → stalled r.peer → takes (.fill r.peer))
        ∧ (¬ stalled r → ¬ stalled r.peer →
            (s.offers (.fill r) = true → takes (.fill r))
            ∧ (s.offers (.fill r) = false → s.offers (.readHead r) = true → takes (.readHead r))
            ∧ (¬ reads r → s.offers (.fill r.peer) = true → takes (.fill r.peer))
            ∧ (¬ reads r → s.offers (.fill r.peer) = false → s.offers (.readHead r.peer) = true →
                takes (.readHead r.peer)))
        ∧ (¬ reads r → ¬ reads r.peer →
            (resumable → takes .resume)
            ∧ (¬ resumable →
                (s.offers (.writeHead w) = true → takes (.writeHead w))
                ∧ (s.offers (.writeHead w) = false → s.offers (.writeHead w.peer) = true → takes (.writeHead w.peer)))))

/-- An allowed head or fill becomes the active record, a write purges the apertures, and the resume is taken back
(from R14, R31, R49, R59, R67, R71, R78, R110). -/
def Obligations.AllowedGrants : Prop :=
  (∀ (s : State) (p : Port) (op : SlotOp), (s.queue p).head = some op →
    s.startCheck p op.kind.right op.range = none →
    let n := (s.queue p).start
    let started := s.modQueue p fun q => { q with slots := q.slots.set n (.active op), start := n + 1 }
    let record : OpRecord :=
      { source := .queue p n, orphan := false, kind := .slot op.kind, range := op.range, buffer := op.buffer, suspends := 0,
        unsuspendable := false, busyTime := 0, runTime := 0, mismatch := none, generation := none }
    (op.kind.isWrite = false →
      s.grant (.readHead p)
        = { started with
            arbiter := { s.arbiter with readPointer := p.peer }
            seq := { s.seq with active := some record, state := .reading, line := .called .read } })
    ∧ (op.kind.isWrite = true →
        s.grant (.writeHead p)
          = { (started.modAperture .A (Aperture.purge op.range)).modAperture .B (Aperture.purge op.range) with
              arbiter := { s.arbiter with writePointer := p.peer }
              seq := { s.seq with active := some record, state := .writing, line := .called .writeEnable } }))
  ∧ (∀ (r : Range) (a : Aperture),
      let shared := a.fifo ≠ [] ∧ ∃ b, a.current ≤ b ∧ b < a.fetch ∧ r.first ≤ b ∧ b < r.first + r.length
      (shared → a.purge r = { a with fifo := [], fetch := a.current }) ∧ (¬ shared → a.purge r = a))
  ∧ (∀ (s : State) (p : Port),
      let range : Range := { first := (s.aperture p).fetch, length := s.fillLength p }
      s.startCheck p .read range = none →
      s.grant (.fill p)
        = { s.modAperture p fun a => { a with inFlight := true } with
            arbiter := { s.arbiter with readPointer := p.peer }
            seq := { s.seq with
              active := some
                { source := .fill p, orphan := false, kind := .fill, range := range, buffer := none, suspends := 0
                  unsuspendable := false, busyTime := 0, runTime := 0, mismatch := none
                  generation := some (s.aperture p).generation }
              state := .reading, line := .called .read } })
  ∧ ∀ (s : State) (x : Suspended), s.seq.suspended = some x →
      s.grant .resume
        = { s with
            arbiter := { s.arbiter with resumeDue := false }
            seq := { s.seq with active := some x.op, suspended := none, state := .resuming, line := .called .resume
                                dwellTimer := none } }

/-- A denied head is DONE DENIED and counted, a denied fill puts its aperture in DENIED (from R15, R72, R73, R104,
R108, R169). -/
def Obligations.DeniedGrants : Prop :=
  (∀ (s : State) (p : Port) (op : SlotOp) (detail : Nat), (s.queue p).head = some op →
    s.startCheck p op.kind.right op.range = some detail →
    let n := (s.queue p).start
    let moved := fun arbiter : Arbiter =>
      { s.modQueue p fun q => { q with start := n + 1 } with arbiter := arbiter }
    let denied := fun arbiter : Arbiter =>
      ((moved arbiter).finishSlot p n { status := .denied, detail := BitVec.ofNat 8 detail, suspends := 0 }).notify p fun e =>
        { e with denyCnt := if e.denyCnt = 255 then 255 else e.denyCnt + 1 }
    detail ≤ 16
    ∧ (op.kind.isWrite = false → s.grant (.readHead p) = denied { s.arbiter with readPointer := p.peer })
    ∧ (op.kind.isWrite = true → s.grant (.writeHead p) = denied { s.arbiter with writePointer := p.peer })
    ∧ (∀ arbiter, (denied arbiter).seq = s.seq)
    ∧ ∀ arbiter, ∃ c, ((denied arbiter).queue p).slots[n] = .done op c ∧ c.status = .denied ∧ c.suspends = 0)
  ∧ ∀ (s : State) (p : Port) (detail : Nat),
      s.startCheck p .read { first := (s.aperture p).fetch, length := s.fillLength p } = some detail →
      let moved := { s with arbiter := { s.arbiter with readPointer := p.peer } }
      let denyCnt := fun e : EventUnit => if e.denyCnt = 255 then 255 else e.denyCnt + 1
      ((s.aperture p).stalled = false →
        s.grant (.fill p)
          = (State.modAperture moved p fun a => { a with state := .denied }).notify p fun e => { e with denyCnt := denyCnt e })
      ∧ ((s.aperture p).stalled = true →
          s.grant (.fill p)
            = (State.modPort moved p fun x =>
                { x with dataOut := some 0xFF
                         aperture := { x.aperture with state := .denied, stalled := false, stallTimer := none } }).notify p
                fun e => { e with denyCnt := denyCnt e, apCause := .denied, flags := e.flags ||| 4#9 })

/-- A grant point repeats over denials and ends with no eligible candidate left, or out of IDLE (from R58, R59, R72,
R29). Assumption 18. -/
def Obligations.GrantPointEnds : Prop :=
  ∀ s : State,
    (s.seq.state ≠ .idle → s.grantPoint = s)
    ∧ (s.choose = none → s.grantPoint = s)
    ∧ (∀ c, s.seq.state = .idle → s.choose = some c → s.grantPoint = (s.grant c).grantPoint)
    ∧ (s.grantPoint.seq.state = .idle → ∀ c, s.grantPoint.offers c = false)
    ∧ (∀ n, 19 ≤ n → grantRepeat n s = s.grantPoint)
    ∧ s.enterIdle = (s.modSeq fun q => { q with state := .idle }).grantPoint
    ∧ (s.seq.state = .idle → s.consider = s.grantPoint)
    ∧ (s.seq.state ≠ .idle → s.consider = s.evaluateSuspend)

/-- At every step at most one port has the hold, alone on the flash, with the hold timer running (from R131, R132). -/
def Obligations.HoldStaysExclusive : Prop :=
  ∀ s t : State, HoldExclusive s → step s = .next t → HoldExclusive t

/-- At every step the records fit the sequencer state, and exactly one thing ends every wait (from R29, R32, R43, R48,
R78). -/
def Obligations.SequencerStaysConsistent : Prop :=
  ∀ s t : State, RecordsFit s.seq → LineFits s → step s = .next t → RecordsFit t.seq ∧ LineFits t

/-- At every step no operation has been suspended more often than the profile allows (from R74, R75, R45, R152). -/
def Obligations.SuspendCountsStayBounded : Prop :=
  ∀ s t : State, RecordsFit s.seq → LineFits s → SuspendsBounded s → step s = .next t → SuspendsBounded t

/-- At every step each ring keeps its shape, and its ACTIVE slot is the one a record names (from R2, R8, R14, R31). -/
def Obligations.QueuesStayConsistent : Prop :=
  ∀ s t : State, QueuesConsistent s → step s = .next t → QueuesConsistent t

/-- At every step a buffer is LENT exactly to the slot or the orphan that uses it (from R83, R88, R89, R90, R95). -/
def Obligations.BuffersStayConsistent : Prop :=
  ∀ s t : State, QueuesConsistent s → BuffersConsistent s → step s = .next t → BuffersConsistent t

/-- At every step each FIFO holds the bytes between its addresses, takes its fill, and has no byte a write is changing
(from R66, R97, R98, R102, R105, R106, R108, R110, R111). Assumption 19 for the generations that come round. -/
def Obligations.AperturesStayConsistent : Prop :=
  ∀ s t : State, QueuesConsistent s → AperturesConsistent s → GenerationNotReused s t → step s = .next t → AperturesConsistent t

/-- At no step does the sequencer rest in IDLE beside an eligible candidate (from R58, R62). -/
def Obligations.IdleLeavesNothingEligible : Prop :=
  ∀ s t : State, WorkConserving s → step s = .next t → WorkConserving t

/-- At every step the settings stay in their ranges and the holdoff timer runs while completions wait (from R101,
R166, R167). -/
def Obligations.SettingsStayInRange : Prop :=
  ∀ s t : State, SettingsInRange s → step s = .next t → SettingsInRange t

/-- The state right after reset has every invariant (from R2, R32, R83, R97, R132, R166). -/
def Obligations.InvariantsHoldAtReset : Prop :=
  HoldExclusive .reset ∧ RecordsFit State.reset.seq ∧ LineFits .reset ∧ SuspendsBounded .reset ∧ QueuesConsistent .reset
    ∧ BuffersConsistent .reset ∧ AperturesConsistent .reset ∧ WorkConserving .reset ∧ SettingsInRange .reset

end Statements
end

