-- ==== Sys2Proof/Laws/State.lean ====
section
/-! SUPPORT. What each update of the state leaves and what it changes: one lemma a field, true by rfl. -/

namespace Sys2Proof.Machine

/-! ### The two ports -/

@[simp] theorem Port.peer_peer (p : Port) : p.peer.peer = p := by cases p <;> rfl
@[simp] theorem Port.peer_ne (p : Port) : p.peer ≠ p := by cases p <;> decide
@[simp] theorem Port.ne_peer (p : Port) : p ≠ p.peer := by cases p <;> decide
theorem Port.eq_peer_of_ne {p q : Port} (h : q ≠ p) : q = p.peer := by cases p <;> cases q <;> first | rfl | exact absurd rfl h
theorem Port.eq_or_peer (p q : Port) : q = p ∨ q = p.peer := by cases p <;> cases q <;> simp [Port.peer]

@[simp] theorem Both.get_set {α : Type} (x : Both α) (p : Port) (v : α) : (x.set p v).get p = v := by cases p <;> rfl
@[simp] theorem Both.get_set_peer {α : Type} (x : Both α) (p : Port) (v : α) : (x.set p v).get p.peer = x.get p.peer := by
  cases p <;> rfl
@[simp] theorem Both.get_set_of_peer {α : Type} (x : Both α) (p : Port) (v : α) : (x.set p.peer v).get p = x.get p := by
  cases p <;> rfl
theorem Both.get_set_of_ne {α : Type} (x : Both α) {p q : Port} (h : q ≠ p) (v : α) : (x.set p v).get q = x.get q := by
  rw [Port.eq_peer_of_ne h]; simp
theorem Both.ext_get {α : Type} {x y : Both α} (h : ∀ p, x.get p = y.get p) : x = y := by
  have ha := h .A; have hb := h .B; cases x; cases y; simp_all [Both.get]

@[simp] theorem State.port_modPort (s : State) (p : Port) (f : PortState → PortState) :
    (s.modPort p f).port p = f (s.port p) := by simp [State.port, State.modPort]
@[simp] theorem State.port_modPort_peer (s : State) (p : Port) (f : PortState → PortState) :
    (s.modPort p f).port p.peer = s.port p.peer := by simp [State.port, State.modPort]
@[simp] theorem State.port_modPort_of_peer (s : State) (p : Port) (f : PortState → PortState) :
    (s.modPort p.peer f).port p = s.port p := by simp [State.port, State.modPort]
theorem State.port_modPort_of_ne (s : State) {p q : Port} (h : q ≠ p) (f : PortState → PortState) :
    (s.modPort p f).port q = s.port q := by simp [State.port, State.modPort, Both.get_set_of_ne _ h]
/-- What changing one port's record does to every port's. -/
theorem State.port_modPort_eq (s : State) (p q : Port) (f : PortState → PortState) :
    (s.modPort p f).port q = if q = p then f (s.port p) else s.port q := by
  split
  · next h => subst h; simp
  · next h => exact s.port_modPort_of_ne h f

/-! ### The basic updates, field by field -/

@[simp] theorem State.modPort_pool (s : State) (p : Port) (f : PortState → PortState) : (s.modPort p f).pool = s.pool := rfl
@[simp] theorem State.modPort_seq (s : State) (p : Port) (f : PortState → PortState) : (s.modPort p f).seq = s.seq := rfl
@[simp] theorem State.modPort_arbiter (s : State) (p : Port) (f : PortState → PortState) : (s.modPort p f).arbiter = s.arbiter := rfl
@[simp] theorem State.modPort_regions (s : State) (p : Port) (f : PortState → PortState) : (s.modPort p f).regions = s.regions := rfl
@[simp] theorem State.modPort_hold (s : State) (p : Port) (f : PortState → PortState) : (s.modPort p f).hold = s.hold := rfl
@[simp] theorem State.modPort_profile (s : State) (p : Port) (f : PortState → PortState) : (s.modPort p f).profile = s.profile := rfl
@[simp] theorem State.modPort_counters (s : State) (p : Port) (f : PortState → PortState) : (s.modPort p f).counters = s.counters := rfl
@[simp] theorem State.modPort_powerOnReset (s : State) (p : Port) (f : PortState → PortState) : (s.modPort p f).powerOnReset = s.powerOnReset := rfl
@[simp] theorem State.modPort_ticks (s : State) (p : Port) (f : PortState → PortState) : (s.modPort p f).ticks = s.ticks := rfl
@[simp] theorem State.modPort_pending (s : State) (p : Port) (f : PortState → PortState) : (s.modPort p f).pending = s.pending := rfl
@[simp] theorem State.modPort_holder (s : State) (p : Port) (f : PortState → PortState) (c : Fin 16) : (s.modPort p f).holder c = s.holder c := rfl
@[simp] theorem State.modPort_holdOf (s : State) (p : Port) (f : PortState → PortState) (q : Port) : (s.modPort p f).holdOf q = s.holdOf q := rfl
@[simp] theorem State.modPort_prof (s : State) (p : Port) (f : PortState → PortState) : (s.modPort p f).prof = s.prof := rfl
@[simp] theorem State.modPort_capacity (s : State) (p : Port) (f : PortState → PortState) : (s.modPort p f).capacity = s.capacity := rfl

@[simp] theorem State.modSeq_ports (s : State) (f : Sequencer → Sequencer) : (s.modSeq f).ports = s.ports := rfl
@[simp] theorem State.modSeq_pool (s : State) (f : Sequencer → Sequencer) : (s.modSeq f).pool = s.pool := rfl
@[simp] theorem State.modSeq_arbiter (s : State) (f : Sequencer → Sequencer) : (s.modSeq f).arbiter = s.arbiter := rfl
@[simp] theorem State.modSeq_regions (s : State) (f : Sequencer → Sequencer) : (s.modSeq f).regions = s.regions := rfl
@[simp] theorem State.modSeq_hold (s : State) (f : Sequencer → Sequencer) : (s.modSeq f).hold = s.hold := rfl
@[simp] theorem State.modSeq_profile (s : State) (f : Sequencer → Sequencer) : (s.modSeq f).profile = s.profile := rfl
@[simp] theorem State.modSeq_counters (s : State) (f : Sequencer → Sequencer) : (s.modSeq f).counters = s.counters := rfl
@[simp] theorem State.modSeq_powerOnReset (s : State) (f : Sequencer → Sequencer) : (s.modSeq f).powerOnReset = s.powerOnReset := rfl
@[simp] theorem State.modSeq_ticks (s : State) (f : Sequencer → Sequencer) : (s.modSeq f).ticks = s.ticks := rfl
@[simp] theorem State.modSeq_pending (s : State) (f : Sequencer → Sequencer) : (s.modSeq f).pending = s.pending := rfl
@[simp] theorem State.modSeq_port (s : State) (f : Sequencer → Sequencer) (q : Port) : (s.modSeq f).port q = s.port q := rfl
@[simp] theorem State.modSeq_queue (s : State) (f : Sequencer → Sequencer) (q : Port) : (s.modSeq f).queue q = s.queue q := rfl
@[simp] theorem State.modSeq_aperture (s : State) (f : Sequencer → Sequencer) (q : Port) : (s.modSeq f).aperture q = s.aperture q := rfl
@[simp] theorem State.modSeq_events (s : State) (f : Sequencer → Sequencer) (q : Port) : (s.modSeq f).events q = s.events q := rfl
@[simp] theorem State.modSeq_holder (s : State) (f : Sequencer → Sequencer) (c : Fin 16) : (s.modSeq f).holder c = s.holder c := rfl
@[simp] theorem State.modSeq_holdOf (s : State) (f : Sequencer → Sequencer) (q : Port) : (s.modSeq f).holdOf q = s.holdOf q := rfl
@[simp] theorem State.modSeq_prof (s : State) (f : Sequencer → Sequencer) : (s.modSeq f).prof = s.prof := rfl
@[simp] theorem State.modSeq_capacity (s : State) (f : Sequencer → Sequencer) : (s.modSeq f).capacity = s.capacity := rfl

@[simp] theorem State.setHold_ports (s : State) (p : Port) (h : HoldState) : (s.setHold p h).ports = s.ports := rfl
@[simp] theorem State.setHold_pool (s : State) (p : Port) (h : HoldState) : (s.setHold p h).pool = s.pool := rfl
@[simp] theorem State.setHold_seq (s : State) (p : Port) (h : HoldState) : (s.setHold p h).seq = s.seq := rfl
@[simp] theorem State.setHold_arbiter (s : State) (p : Port) (h : HoldState) : (s.setHold p h).arbiter = s.arbiter := rfl
@[simp] theorem State.setHold_regions (s : State) (p : Port) (h : HoldState) : (s.setHold p h).regions = s.regions := rfl
@[simp] theorem State.setHold_profile (s : State) (p : Port) (h : HoldState) : (s.setHold p h).profile = s.profile := rfl
@[simp] theorem State.setHold_counters (s : State) (p : Port) (h : HoldState) : (s.setHold p h).counters = s.counters := rfl
@[simp] theorem State.setHold_powerOnReset (s : State) (p : Port) (h : HoldState) : (s.setHold p h).powerOnReset = s.powerOnReset := rfl
@[simp] theorem State.setHold_ticks (s : State) (p : Port) (h : HoldState) : (s.setHold p h).ticks = s.ticks := rfl
@[simp] theorem State.setHold_pending (s : State) (p : Port) (h : HoldState) : (s.setHold p h).pending = s.pending := rfl
@[simp] theorem State.setHold_port (s : State) (p : Port) (h : HoldState) (q : Port) : (s.setHold p h).port q = s.port q := rfl
@[simp] theorem State.setHold_queue (s : State) (p : Port) (h : HoldState) (q : Port) : (s.setHold p h).queue q = s.queue q := rfl
@[simp] theorem State.setHold_aperture (s : State) (p : Port) (h : HoldState) (q : Port) : (s.setHold p h).aperture q = s.aperture q := rfl
@[simp] theorem State.setHold_events (s : State) (p : Port) (h : HoldState) (q : Port) : (s.setHold p h).events q = s.events q := rfl
@[simp] theorem State.setHold_holder (s : State) (p : Port) (h : HoldState) (c : Fin 16) : (s.setHold p h).holder c = s.holder c := rfl
@[simp] theorem State.setHold_prof (s : State) (p : Port) (h : HoldState) : (s.setHold p h).prof = s.prof := rfl
@[simp] theorem State.setHold_capacity (s : State) (p : Port) (h : HoldState) : (s.setHold p h).capacity = s.capacity := rfl

@[simp] theorem State.setHolder_ports (s : State) (b : Fin 16) (h : Holder) : (s.setHolder b h).ports = s.ports := rfl
@[simp] theorem State.setHolder_seq (s : State) (b : Fin 16) (h : Holder) : (s.setHolder b h).seq = s.seq := rfl
@[simp] theorem State.setHolder_arbiter (s : State) (b : Fin 16) (h : Holder) : (s.setHolder b h).arbiter = s.arbiter := rfl
@[simp] theorem State.setHolder_regions (s : State) (b : Fin 16) (h : Holder) : (s.setHolder b h).regions = s.regions := rfl
@[simp] theorem State.setHolder_hold (s : State) (b : Fin 16) (h : Holder) : (s.setHolder b h).hold = s.hold := rfl
@[simp] theorem State.setHolder_profile (s : State) (b : Fin 16) (h : Holder) : (s.setHolder b h).profile = s.profile := rfl
@[simp] theorem State.setHolder_counters (s : State) (b : Fin 16) (h : Holder) : (s.setHolder b h).counters = s.counters := rfl
@[simp] theorem State.setHolder_powerOnReset (s : State) (b : Fin 16) (h : Holder) : (s.setHolder b h).powerOnReset = s.powerOnReset := rfl
@[simp] theorem State.setHolder_ticks (s : State) (b : Fin 16) (h : Holder) : (s.setHolder b h).ticks = s.ticks := rfl
@[simp] theorem State.setHolder_pending (s : State) (b : Fin 16) (h : Holder) : (s.setHolder b h).pending = s.pending := rfl
@[simp] theorem State.setHolder_port (s : State) (b : Fin 16) (h : Holder) (q : Port) : (s.setHolder b h).port q = s.port q := rfl
@[simp] theorem State.setHolder_queue (s : State) (b : Fin 16) (h : Holder) (q : Port) : (s.setHolder b h).queue q = s.queue q := rfl
@[simp] theorem State.setHolder_aperture (s : State) (b : Fin 16) (h : Holder) (q : Port) : (s.setHolder b h).aperture q = s.aperture q := rfl
@[simp] theorem State.setHolder_events (s : State) (b : Fin 16) (h : Holder) (q : Port) : (s.setHolder b h).events q = s.events q := rfl
@[simp] theorem State.setHolder_holdOf (s : State) (b : Fin 16) (h : Holder) (q : Port) : (s.setHolder b h).holdOf q = s.holdOf q := rfl
@[simp] theorem State.setHolder_prof (s : State) (b : Fin 16) (h : Holder) : (s.setHolder b h).prof = s.prof := rfl
@[simp] theorem State.setHolder_capacity (s : State) (b : Fin 16) (h : Holder) : (s.setHolder b h).capacity = s.capacity := rfl

@[simp] theorem State.setBuffer_ports (s : State) (b : Fin 16) (v : Vector Byte 256) : (s.setBuffer b v).ports = s.ports := rfl
@[simp] theorem State.setBuffer_seq (s : State) (b : Fin 16) (v : Vector Byte 256) : (s.setBuffer b v).seq = s.seq := rfl
@[simp] theorem State.setBuffer_arbiter (s : State) (b : Fin 16) (v : Vector Byte 256) : (s.setBuffer b v).arbiter = s.arbiter := rfl
@[simp] theorem State.setBuffer_regions (s : State) (b : Fin 16) (v : Vector Byte 256) : (s.setBuffer b v).regions = s.regions := rfl
@[simp] theorem State.setBuffer_hold (s : State) (b : Fin 16) (v : Vector Byte 256) : (s.setBuffer b v).hold = s.hold := rfl
@[simp] theorem State.setBuffer_profile (s : State) (b : Fin 16) (v : Vector Byte 256) : (s.setBuffer b v).profile = s.profile := rfl
@[simp] theorem State.setBuffer_counters (s : State) (b : Fin 16) (v : Vector Byte 256) : (s.setBuffer b v).counters = s.counters := rfl
@[simp] theorem State.setBuffer_powerOnReset (s : State) (b : Fin 16) (v : Vector Byte 256) : (s.setBuffer b v).powerOnReset = s.powerOnReset := rfl
@[simp] theorem State.setBuffer_ticks (s : State) (b : Fin 16) (v : Vector Byte 256) : (s.setBuffer b v).ticks = s.ticks := rfl
@[simp] theorem State.setBuffer_pending (s : State) (b : Fin 16) (v : Vector Byte 256) : (s.setBuffer b v).pending = s.pending := rfl
@[simp] theorem State.setBuffer_port (s : State) (b : Fin 16) (v : Vector Byte 256) (q : Port) : (s.setBuffer b v).port q = s.port q := rfl
@[simp] theorem State.setBuffer_queue (s : State) (b : Fin 16) (v : Vector Byte 256) (q : Port) : (s.setBuffer b v).queue q = s.queue q := rfl
@[simp] theorem State.setBuffer_aperture (s : State) (b : Fin 16) (v : Vector Byte 256) (q : Port) : (s.setBuffer b v).aperture q = s.aperture q := rfl
@[simp] theorem State.setBuffer_events (s : State) (b : Fin 16) (v : Vector Byte 256) (q : Port) : (s.setBuffer b v).events q = s.events q := rfl
@[simp] theorem State.setBuffer_holdOf (s : State) (b : Fin 16) (v : Vector Byte 256) (q : Port) : (s.setBuffer b v).holdOf q = s.holdOf q := rfl
@[simp] theorem State.setBuffer_prof (s : State) (b : Fin 16) (v : Vector Byte 256) : (s.setBuffer b v).prof = s.prof := rfl
@[simp] theorem State.setBuffer_capacity (s : State) (b : Fin 16) (v : Vector Byte 256) : (s.setBuffer b v).capacity = s.capacity := rfl

@[simp] theorem State.elapse_pool (s : State) (d : Nat) : (s.elapse d).pool = s.pool := rfl
@[simp] theorem State.elapse_arbiter (s : State) (d : Nat) : (s.elapse d).arbiter = s.arbiter := rfl
@[simp] theorem State.elapse_regions (s : State) (d : Nat) : (s.elapse d).regions = s.regions := rfl
@[simp] theorem State.elapse_profile (s : State) (d : Nat) : (s.elapse d).profile = s.profile := rfl
@[simp] theorem State.elapse_counters (s : State) (d : Nat) : (s.elapse d).counters = s.counters := rfl
@[simp] theorem State.elapse_powerOnReset (s : State) (d : Nat) : (s.elapse d).powerOnReset = s.powerOnReset := rfl
@[simp] theorem State.elapse_ticks (s : State) (d : Nat) : (s.elapse d).ticks = s.ticks := rfl
@[simp] theorem State.elapse_pending (s : State) (d : Nat) : (s.elapse d).pending = s.pending := rfl
@[simp] theorem State.elapse_holder (s : State) (d : Nat) (c : Fin 16) : (s.elapse d).holder c = s.holder c := rfl
@[simp] theorem State.elapse_prof (s : State) (d : Nat) : (s.elapse d).prof = s.prof := rfl
@[simp] theorem State.elapse_capacity (s : State) (d : Nat) : (s.elapse d).capacity = s.capacity := rfl

@[simp] theorem State.moveReadPointer_ports (s : State) (p : Port) : (s.moveReadPointer p).ports = s.ports := rfl
@[simp] theorem State.moveReadPointer_pool (s : State) (p : Port) : (s.moveReadPointer p).pool = s.pool := rfl
@[simp] theorem State.moveReadPointer_seq (s : State) (p : Port) : (s.moveReadPointer p).seq = s.seq := rfl
@[simp] theorem State.moveReadPointer_regions (s : State) (p : Port) : (s.moveReadPointer p).regions = s.regions := rfl
@[simp] theorem State.moveReadPointer_hold (s : State) (p : Port) : (s.moveReadPointer p).hold = s.hold := rfl
@[simp] theorem State.moveReadPointer_profile (s : State) (p : Port) : (s.moveReadPointer p).profile = s.profile := rfl
@[simp] theorem State.moveReadPointer_counters (s : State) (p : Port) : (s.moveReadPointer p).counters = s.counters := rfl
@[simp] theorem State.moveReadPointer_powerOnReset (s : State) (p : Port) : (s.moveReadPointer p).powerOnReset = s.powerOnReset := rfl
@[simp] theorem State.moveReadPointer_ticks (s : State) (p : Port) : (s.moveReadPointer p).ticks = s.ticks := rfl
@[simp] theorem State.moveReadPointer_pending (s : State) (p : Port) : (s.moveReadPointer p).pending = s.pending := rfl
@[simp] theorem State.moveReadPointer_port (s : State) (p : Port) (q : Port) : (s.moveReadPointer p).port q = s.port q := rfl
@[simp] theorem State.moveReadPointer_queue (s : State) (p : Port) (q : Port) : (s.moveReadPointer p).queue q = s.queue q := rfl
@[simp] theorem State.moveReadPointer_aperture (s : State) (p : Port) (q : Port) : (s.moveReadPointer p).aperture q = s.aperture q := rfl
@[simp] theorem State.moveReadPointer_events (s : State) (p : Port) (q : Port) : (s.moveReadPointer p).events q = s.events q := rfl
@[simp] theorem State.moveReadPointer_holder (s : State) (p : Port) (c : Fin 16) : (s.moveReadPointer p).holder c = s.holder c := rfl
@[simp] theorem State.moveReadPointer_holdOf (s : State) (p : Port) (q : Port) : (s.moveReadPointer p).holdOf q = s.holdOf q := rfl
@[simp] theorem State.moveReadPointer_prof (s : State) (p : Port) : (s.moveReadPointer p).prof = s.prof := rfl
@[simp] theorem State.moveReadPointer_capacity (s : State) (p : Port) : (s.moveReadPointer p).capacity = s.capacity := rfl

@[simp] theorem State.moveWritePointer_ports (s : State) (p : Port) : (s.moveWritePointer p).ports = s.ports := rfl
@[simp] theorem State.moveWritePointer_pool (s : State) (p : Port) : (s.moveWritePointer p).pool = s.pool := rfl
@[simp] theorem State.moveWritePointer_seq (s : State) (p : Port) : (s.moveWritePointer p).seq = s.seq := rfl
@[simp] theorem State.moveWritePointer_regions (s : State) (p : Port) : (s.moveWritePointer p).regions = s.regions := rfl
@[simp] theorem State.moveWritePointer_hold (s : State) (p : Port) : (s.moveWritePointer p).hold = s.hold := rfl
@[simp] theorem State.moveWritePointer_profile (s : State) (p : Port) : (s.moveWritePointer p).profile = s.profile := rfl
@[simp] theorem State.moveWritePointer_counters (s : State) (p : Port) : (s.moveWritePointer p).counters = s.counters := rfl
@[simp] theorem State.moveWritePointer_powerOnReset (s : State) (p : Port) : (s.moveWritePointer p).powerOnReset = s.powerOnReset := rfl
@[simp] theorem State.moveWritePointer_ticks (s : State) (p : Port) : (s.moveWritePointer p).ticks = s.ticks := rfl
@[simp] theorem State.moveWritePointer_pending (s : State) (p : Port) : (s.moveWritePointer p).pending = s.pending := rfl
@[simp] theorem State.moveWritePointer_port (s : State) (p : Port) (q : Port) : (s.moveWritePointer p).port q = s.port q := rfl
@[simp] theorem State.moveWritePointer_queue (s : State) (p : Port) (q : Port) : (s.moveWritePointer p).queue q = s.queue q := rfl
@[simp] theorem State.moveWritePointer_aperture (s : State) (p : Port) (q : Port) : (s.moveWritePointer p).aperture q = s.aperture q := rfl
@[simp] theorem State.moveWritePointer_events (s : State) (p : Port) (q : Port) : (s.moveWritePointer p).events q = s.events q := rfl
@[simp] theorem State.moveWritePointer_holder (s : State) (p : Port) (c : Fin 16) : (s.moveWritePointer p).holder c = s.holder c := rfl
@[simp] theorem State.moveWritePointer_holdOf (s : State) (p : Port) (q : Port) : (s.moveWritePointer p).holdOf q = s.holdOf q := rfl
@[simp] theorem State.moveWritePointer_prof (s : State) (p : Port) : (s.moveWritePointer p).prof = s.prof := rfl
@[simp] theorem State.moveWritePointer_capacity (s : State) (p : Port) : (s.moveWritePointer p).capacity = s.capacity := rfl

@[simp] theorem State.countSuspension_ports (s : State) : (s.countSuspension).ports = s.ports := rfl
@[simp] theorem State.countSuspension_pool (s : State) : (s.countSuspension).pool = s.pool := rfl
@[simp] theorem State.countSuspension_seq (s : State) : (s.countSuspension).seq = s.seq := rfl
@[simp] theorem State.countSuspension_arbiter (s : State) : (s.countSuspension).arbiter = s.arbiter := rfl
@[simp] theorem State.countSuspension_regions (s : State) : (s.countSuspension).regions = s.regions := rfl
@[simp] theorem State.countSuspension_hold (s : State) : (s.countSuspension).hold = s.hold := rfl
@[simp] theorem State.countSuspension_profile (s : State) : (s.countSuspension).profile = s.profile := rfl
@[simp] theorem State.countSuspension_powerOnReset (s : State) : (s.countSuspension).powerOnReset = s.powerOnReset := rfl
@[simp] theorem State.countSuspension_ticks (s : State) : (s.countSuspension).ticks = s.ticks := rfl
@[simp] theorem State.countSuspension_pending (s : State) : (s.countSuspension).pending = s.pending := rfl
@[simp] theorem State.countSuspension_port (s : State) (q : Port) : (s.countSuspension).port q = s.port q := rfl
@[simp] theorem State.countSuspension_queue (s : State) (q : Port) : (s.countSuspension).queue q = s.queue q := rfl
@[simp] theorem State.countSuspension_aperture (s : State) (q : Port) : (s.countSuspension).aperture q = s.aperture q := rfl
@[simp] theorem State.countSuspension_events (s : State) (q : Port) : (s.countSuspension).events q = s.events q := rfl
@[simp] theorem State.countSuspension_holder (s : State) (c : Fin 16) : (s.countSuspension).holder c = s.holder c := rfl
@[simp] theorem State.countSuspension_holdOf (s : State) (q : Port) : (s.countSuspension).holdOf q = s.holdOf q := rfl
@[simp] theorem State.countSuspension_prof (s : State) : (s.countSuspension).prof = s.prof := rfl
@[simp] theorem State.countSuspension_capacity (s : State) : (s.countSuspension).capacity = s.capacity := rfl

@[simp] theorem State.countTimeout_ports (s : State) : (s.countTimeout).ports = s.ports := rfl
@[simp] theorem State.countTimeout_pool (s : State) : (s.countTimeout).pool = s.pool := rfl
@[simp] theorem State.countTimeout_seq (s : State) : (s.countTimeout).seq = s.seq := rfl
@[simp] theorem State.countTimeout_arbiter (s : State) : (s.countTimeout).arbiter = s.arbiter := rfl
@[simp] theorem State.countTimeout_regions (s : State) : (s.countTimeout).regions = s.regions := rfl
@[simp] theorem State.countTimeout_hold (s : State) : (s.countTimeout).hold = s.hold := rfl
@[simp] theorem State.countTimeout_profile (s : State) : (s.countTimeout).profile = s.profile := rfl
@[simp] theorem State.countTimeout_powerOnReset (s : State) : (s.countTimeout).powerOnReset = s.powerOnReset := rfl
@[simp] theorem State.countTimeout_ticks (s : State) : (s.countTimeout).ticks = s.ticks := rfl
@[simp] theorem State.countTimeout_pending (s : State) : (s.countTimeout).pending = s.pending := rfl
@[simp] theorem State.countTimeout_port (s : State) (q : Port) : (s.countTimeout).port q = s.port q := rfl
@[simp] theorem State.countTimeout_queue (s : State) (q : Port) : (s.countTimeout).queue q = s.queue q := rfl
@[simp] theorem State.countTimeout_aperture (s : State) (q : Port) : (s.countTimeout).aperture q = s.aperture q := rfl
@[simp] theorem State.countTimeout_events (s : State) (q : Port) : (s.countTimeout).events q = s.events q := rfl
@[simp] theorem State.countTimeout_holder (s : State) (c : Fin 16) : (s.countTimeout).holder c = s.holder c := rfl
@[simp] theorem State.countTimeout_holdOf (s : State) (q : Port) : (s.countTimeout).holdOf q = s.holdOf q := rfl
@[simp] theorem State.countTimeout_prof (s : State) : (s.countTimeout).prof = s.prof := rfl
@[simp] theorem State.countTimeout_capacity (s : State) : (s.countTimeout).capacity = s.capacity := rfl

@[simp] theorem State.countRecoveryFailure_ports (s : State) : (s.countRecoveryFailure).ports = s.ports := rfl
@[simp] theorem State.countRecoveryFailure_pool (s : State) : (s.countRecoveryFailure).pool = s.pool := rfl
@[simp] theorem State.countRecoveryFailure_seq (s : State) : (s.countRecoveryFailure).seq = s.seq := rfl
@[simp] theorem State.countRecoveryFailure_arbiter (s : State) : (s.countRecoveryFailure).arbiter = s.arbiter := rfl
@[simp] theorem State.countRecoveryFailure_regions (s : State) : (s.countRecoveryFailure).regions = s.regions := rfl
@[simp] theorem State.countRecoveryFailure_hold (s : State) : (s.countRecoveryFailure).hold = s.hold := rfl
@[simp] theorem State.countRecoveryFailure_profile (s : State) : (s.countRecoveryFailure).profile = s.profile := rfl
@[simp] theorem State.countRecoveryFailure_powerOnReset (s : State) : (s.countRecoveryFailure).powerOnReset = s.powerOnReset := rfl
@[simp] theorem State.countRecoveryFailure_ticks (s : State) : (s.countRecoveryFailure).ticks = s.ticks := rfl
@[simp] theorem State.countRecoveryFailure_pending (s : State) : (s.countRecoveryFailure).pending = s.pending := rfl
@[simp] theorem State.countRecoveryFailure_port (s : State) (q : Port) : (s.countRecoveryFailure).port q = s.port q := rfl
@[simp] theorem State.countRecoveryFailure_queue (s : State) (q : Port) : (s.countRecoveryFailure).queue q = s.queue q := rfl
@[simp] theorem State.countRecoveryFailure_aperture (s : State) (q : Port) : (s.countRecoveryFailure).aperture q = s.aperture q := rfl
@[simp] theorem State.countRecoveryFailure_events (s : State) (q : Port) : (s.countRecoveryFailure).events q = s.events q := rfl
@[simp] theorem State.countRecoveryFailure_holder (s : State) (c : Fin 16) : (s.countRecoveryFailure).holder c = s.holder c := rfl
@[simp] theorem State.countRecoveryFailure_holdOf (s : State) (q : Port) : (s.countRecoveryFailure).holdOf q = s.holdOf q := rfl
@[simp] theorem State.countRecoveryFailure_prof (s : State) : (s.countRecoveryFailure).prof = s.prof := rfl
@[simp] theorem State.countRecoveryFailure_capacity (s : State) : (s.countRecoveryFailure).capacity = s.capacity := rfl

@[simp] theorem State.setDuration_ports (s : State) (d : Byte) : (s.setDuration d).ports = s.ports := rfl
@[simp] theorem State.setDuration_pool (s : State) (d : Byte) : (s.setDuration d).pool = s.pool := rfl
@[simp] theorem State.setDuration_seq (s : State) (d : Byte) : (s.setDuration d).seq = s.seq := rfl
@[simp] theorem State.setDuration_arbiter (s : State) (d : Byte) : (s.setDuration d).arbiter = s.arbiter := rfl
@[simp] theorem State.setDuration_regions (s : State) (d : Byte) : (s.setDuration d).regions = s.regions := rfl
@[simp] theorem State.setDuration_profile (s : State) (d : Byte) : (s.setDuration d).profile = s.profile := rfl
@[simp] theorem State.setDuration_counters (s : State) (d : Byte) : (s.setDuration d).counters = s.counters := rfl
@[simp] theorem State.setDuration_powerOnReset (s : State) (d : Byte) : (s.setDuration d).powerOnReset = s.powerOnReset := rfl
@[simp] theorem State.setDuration_ticks (s : State) (d : Byte) : (s.setDuration d).ticks = s.ticks := rfl
@[simp] theorem State.setDuration_pending (s : State) (d : Byte) : (s.setDuration d).pending = s.pending := rfl
@[simp] theorem State.setDuration_port (s : State) (d : Byte) (q : Port) : (s.setDuration d).port q = s.port q := rfl
@[simp] theorem State.setDuration_queue (s : State) (d : Byte) (q : Port) : (s.setDuration d).queue q = s.queue q := rfl
@[simp] theorem State.setDuration_aperture (s : State) (d : Byte) (q : Port) : (s.setDuration d).aperture q = s.aperture q := rfl
@[simp] theorem State.setDuration_events (s : State) (d : Byte) (q : Port) : (s.setDuration d).events q = s.events q := rfl
@[simp] theorem State.setDuration_holder (s : State) (d : Byte) (c : Fin 16) : (s.setDuration d).holder c = s.holder c := rfl
@[simp] theorem State.setDuration_prof (s : State) (d : Byte) : (s.setDuration d).prof = s.prof := rfl
@[simp] theorem State.setDuration_capacity (s : State) (d : Byte) : (s.setDuration d).capacity = s.capacity := rfl

@[simp] theorem State.setHoldTimer_ports (s : State) (t : Timer) : (s.setHoldTimer t).ports = s.ports := rfl
@[simp] theorem State.setHoldTimer_pool (s : State) (t : Timer) : (s.setHoldTimer t).pool = s.pool := rfl
@[simp] theorem State.setHoldTimer_seq (s : State) (t : Timer) : (s.setHoldTimer t).seq = s.seq := rfl
@[simp] theorem State.setHoldTimer_arbiter (s : State) (t : Timer) : (s.setHoldTimer t).arbiter = s.arbiter := rfl
@[simp] theorem State.setHoldTimer_regions (s : State) (t : Timer) : (s.setHoldTimer t).regions = s.regions := rfl
@[simp] theorem State.setHoldTimer_profile (s : State) (t : Timer) : (s.setHoldTimer t).profile = s.profile := rfl
@[simp] theorem State.setHoldTimer_counters (s : State) (t : Timer) : (s.setHoldTimer t).counters = s.counters := rfl
@[simp] theorem State.setHoldTimer_powerOnReset (s : State) (t : Timer) : (s.setHoldTimer t).powerOnReset = s.powerOnReset := rfl
@[simp] theorem State.setHoldTimer_ticks (s : State) (t : Timer) : (s.setHoldTimer t).ticks = s.ticks := rfl
@[simp] theorem State.setHoldTimer_pending (s : State) (t : Timer) : (s.setHoldTimer t).pending = s.pending := rfl
@[simp] theorem State.setHoldTimer_port (s : State) (t : Timer) (q : Port) : (s.setHoldTimer t).port q = s.port q := rfl
@[simp] theorem State.setHoldTimer_queue (s : State) (t : Timer) (q : Port) : (s.setHoldTimer t).queue q = s.queue q := rfl
@[simp] theorem State.setHoldTimer_aperture (s : State) (t : Timer) (q : Port) : (s.setHoldTimer t).aperture q = s.aperture q := rfl
@[simp] theorem State.setHoldTimer_events (s : State) (t : Timer) (q : Port) : (s.setHoldTimer t).events q = s.events q := rfl
@[simp] theorem State.setHoldTimer_holder (s : State) (t : Timer) (c : Fin 16) : (s.setHoldTimer t).holder c = s.holder c := rfl
@[simp] theorem State.setHoldTimer_prof (s : State) (t : Timer) : (s.setHoldTimer t).prof = s.prof := rfl
@[simp] theorem State.setHoldTimer_capacity (s : State) (t : Timer) : (s.setHoldTimer t).capacity = s.capacity := rfl

@[simp] theorem State.dropSuspendRequest_ports (s : State) : (s.dropSuspendRequest).ports = s.ports := rfl
@[simp] theorem State.dropSuspendRequest_pool (s : State) : (s.dropSuspendRequest).pool = s.pool := rfl
@[simp] theorem State.dropSuspendRequest_seq (s : State) : (s.dropSuspendRequest).seq = s.seq := rfl
@[simp] theorem State.dropSuspendRequest_regions (s : State) : (s.dropSuspendRequest).regions = s.regions := rfl
@[simp] theorem State.dropSuspendRequest_hold (s : State) : (s.dropSuspendRequest).hold = s.hold := rfl
@[simp] theorem State.dropSuspendRequest_profile (s : State) : (s.dropSuspendRequest).profile = s.profile := rfl
@[simp] theorem State.dropSuspendRequest_counters (s : State) : (s.dropSuspendRequest).counters = s.counters := rfl
@[simp] theorem State.dropSuspendRequest_powerOnReset (s : State) : (s.dropSuspendRequest).powerOnReset = s.powerOnReset := rfl
@[simp] theorem State.dropSuspendRequest_ticks (s : State) : (s.dropSuspendRequest).ticks = s.ticks := rfl
@[simp] theorem State.dropSuspendRequest_pending (s : State) : (s.dropSuspendRequest).pending = s.pending := rfl
@[simp] theorem State.dropSuspendRequest_port (s : State) (q : Port) : (s.dropSuspendRequest).port q = s.port q := rfl
@[simp] theorem State.dropSuspendRequest_queue (s : State) (q : Port) : (s.dropSuspendRequest).queue q = s.queue q := rfl
@[simp] theorem State.dropSuspendRequest_aperture (s : State) (q : Port) : (s.dropSuspendRequest).aperture q = s.aperture q := rfl
@[simp] theorem State.dropSuspendRequest_events (s : State) (q : Port) : (s.dropSuspendRequest).events q = s.events q := rfl
@[simp] theorem State.dropSuspendRequest_holder (s : State) (c : Fin 16) : (s.dropSuspendRequest).holder c = s.holder c := rfl
@[simp] theorem State.dropSuspendRequest_holdOf (s : State) (q : Port) : (s.dropSuspendRequest).holdOf q = s.holdOf q := rfl
@[simp] theorem State.dropSuspendRequest_prof (s : State) : (s.dropSuspendRequest).prof = s.prof := rfl
@[simp] theorem State.dropSuspendRequest_capacity (s : State) : (s.dropSuspendRequest).capacity = s.capacity := rfl

@[simp] theorem State.setAuthority_ports (s : State) (a : Option Port) : (s.setAuthority a).ports = s.ports := rfl
@[simp] theorem State.setAuthority_pool (s : State) (a : Option Port) : (s.setAuthority a).pool = s.pool := rfl
@[simp] theorem State.setAuthority_seq (s : State) (a : Option Port) : (s.setAuthority a).seq = s.seq := rfl
@[simp] theorem State.setAuthority_arbiter (s : State) (a : Option Port) : (s.setAuthority a).arbiter = s.arbiter := rfl
@[simp] theorem State.setAuthority_regions (s : State) (a : Option Port) : (s.setAuthority a).regions = s.regions := rfl
@[simp] theorem State.setAuthority_hold (s : State) (a : Option Port) : (s.setAuthority a).hold = s.hold := rfl
@[simp] theorem State.setAuthority_counters (s : State) (a : Option Port) : (s.setAuthority a).counters = s.counters := rfl
@[simp] theorem State.setAuthority_powerOnReset (s : State) (a : Option Port) : (s.setAuthority a).powerOnReset = s.powerOnReset := rfl
@[simp] theorem State.setAuthority_ticks (s : State) (a : Option Port) : (s.setAuthority a).ticks = s.ticks := rfl
@[simp] theorem State.setAuthority_pending (s : State) (a : Option Port) : (s.setAuthority a).pending = s.pending := rfl
@[simp] theorem State.setAuthority_port (s : State) (a : Option Port) (q : Port) : (s.setAuthority a).port q = s.port q := rfl
@[simp] theorem State.setAuthority_queue (s : State) (a : Option Port) (q : Port) : (s.setAuthority a).queue q = s.queue q := rfl
@[simp] theorem State.setAuthority_aperture (s : State) (a : Option Port) (q : Port) : (s.setAuthority a).aperture q = s.aperture q := rfl
@[simp] theorem State.setAuthority_events (s : State) (a : Option Port) (q : Port) : (s.setAuthority a).events q = s.events q := rfl
@[simp] theorem State.setAuthority_holder (s : State) (a : Option Port) (c : Fin 16) : (s.setAuthority a).holder c = s.holder c := rfl
@[simp] theorem State.setAuthority_holdOf (s : State) (a : Option Port) (q : Port) : (s.setAuthority a).holdOf q = s.holdOf q := rfl

@[simp] theorem State.clearStaging_ports (s : State) : (s.clearStaging).ports = s.ports := rfl
@[simp] theorem State.clearStaging_pool (s : State) : (s.clearStaging).pool = s.pool := rfl
@[simp] theorem State.clearStaging_seq (s : State) : (s.clearStaging).seq = s.seq := rfl
@[simp] theorem State.clearStaging_arbiter (s : State) : (s.clearStaging).arbiter = s.arbiter := rfl
@[simp] theorem State.clearStaging_hold (s : State) : (s.clearStaging).hold = s.hold := rfl
@[simp] theorem State.clearStaging_counters (s : State) : (s.clearStaging).counters = s.counters := rfl
@[simp] theorem State.clearStaging_powerOnReset (s : State) : (s.clearStaging).powerOnReset = s.powerOnReset := rfl
@[simp] theorem State.clearStaging_ticks (s : State) : (s.clearStaging).ticks = s.ticks := rfl
@[simp] theorem State.clearStaging_pending (s : State) : (s.clearStaging).pending = s.pending := rfl
@[simp] theorem State.clearStaging_port (s : State) (q : Port) : (s.clearStaging).port q = s.port q := rfl
@[simp] theorem State.clearStaging_queue (s : State) (q : Port) : (s.clearStaging).queue q = s.queue q := rfl
@[simp] theorem State.clearStaging_aperture (s : State) (q : Port) : (s.clearStaging).aperture q = s.aperture q := rfl
@[simp] theorem State.clearStaging_events (s : State) (q : Port) : (s.clearStaging).events q = s.events q := rfl
@[simp] theorem State.clearStaging_holder (s : State) (c : Fin 16) : (s.clearStaging).holder c = s.holder c := rfl
@[simp] theorem State.clearStaging_holdOf (s : State) (q : Port) : (s.clearStaging).holdOf q = s.holdOf q := rfl

@[simp] theorem State.takeRegion_ports (s : State) (n : Fin 16) : (s.takeRegion n).ports = s.ports := rfl
@[simp] theorem State.takeRegion_pool (s : State) (n : Fin 16) : (s.takeRegion n).pool = s.pool := rfl
@[simp] theorem State.takeRegion_seq (s : State) (n : Fin 16) : (s.takeRegion n).seq = s.seq := rfl
@[simp] theorem State.takeRegion_arbiter (s : State) (n : Fin 16) : (s.takeRegion n).arbiter = s.arbiter := rfl
@[simp] theorem State.takeRegion_hold (s : State) (n : Fin 16) : (s.takeRegion n).hold = s.hold := rfl
@[simp] theorem State.takeRegion_profile (s : State) (n : Fin 16) : (s.takeRegion n).profile = s.profile := rfl
@[simp] theorem State.takeRegion_counters (s : State) (n : Fin 16) : (s.takeRegion n).counters = s.counters := rfl
@[simp] theorem State.takeRegion_powerOnReset (s : State) (n : Fin 16) : (s.takeRegion n).powerOnReset = s.powerOnReset := rfl
@[simp] theorem State.takeRegion_ticks (s : State) (n : Fin 16) : (s.takeRegion n).ticks = s.ticks := rfl
@[simp] theorem State.takeRegion_pending (s : State) (n : Fin 16) : (s.takeRegion n).pending = s.pending := rfl
@[simp] theorem State.takeRegion_port (s : State) (n : Fin 16) (q : Port) : (s.takeRegion n).port q = s.port q := rfl
@[simp] theorem State.takeRegion_queue (s : State) (n : Fin 16) (q : Port) : (s.takeRegion n).queue q = s.queue q := rfl
@[simp] theorem State.takeRegion_aperture (s : State) (n : Fin 16) (q : Port) : (s.takeRegion n).aperture q = s.aperture q := rfl
@[simp] theorem State.takeRegion_events (s : State) (n : Fin 16) (q : Port) : (s.takeRegion n).events q = s.events q := rfl
@[simp] theorem State.takeRegion_holder (s : State) (n : Fin 16) (c : Fin 16) : (s.takeRegion n).holder c = s.holder c := rfl
@[simp] theorem State.takeRegion_holdOf (s : State) (n : Fin 16) (q : Port) : (s.takeRegion n).holdOf q = s.holdOf q := rfl
@[simp] theorem State.takeRegion_prof (s : State) (n : Fin 16) : (s.takeRegion n).prof = s.prof := rfl
@[simp] theorem State.takeRegion_capacity (s : State) (n : Fin 16) : (s.takeRegion n).capacity = s.capacity := rfl

@[simp] theorem State.modSeq_seq (s : State) (f : Sequencer → Sequencer) : (s.modSeq f).seq = f s.seq := rfl
@[simp] theorem State.elapse_seq (s : State) (d : Nat) : (s.elapse d).seq = s.seq.elapse d := rfl
@[simp] theorem State.setHold_holdOf (s : State) (p : Port) (h : HoldState) : (s.setHold p h).holdOf p = h := by
  simp [State.setHold, State.holdOf]
@[simp] theorem State.setHold_holdOf_peer (s : State) (p : Port) (h : HoldState) :
    (s.setHold p h).holdOf p.peer = s.holdOf p.peer := by simp [State.setHold, State.holdOf]
@[simp] theorem State.setHold_timer (s : State) (p : Port) (h : HoldState) : (s.setHold p h).hold.timer = s.hold.timer := rfl
@[simp] theorem State.setHold_duration (s : State) (p : Port) (h : HoldState) :
    (s.setHold p h).hold.duration = s.hold.duration := rfl
@[simp] theorem State.setDuration_holdOf (s : State) (d : Byte) (p : Port) : (s.setDuration d).holdOf p = s.holdOf p := rfl
@[simp] theorem State.setDuration_timer (s : State) (d : Byte) : (s.setDuration d).hold.timer = s.hold.timer := rfl
@[simp] theorem State.setHoldTimer_holdOf (s : State) (t : Timer) (p : Port) : (s.setHoldTimer t).holdOf p = s.holdOf p := rfl
@[simp] theorem State.setHoldTimer_duration (s : State) (t : Timer) :
    (s.setHoldTimer t).hold.duration = s.hold.duration := rfl
@[simp] theorem State.setHoldTimer_timer (s : State) (t : Timer) : (s.setHoldTimer t).hold.timer = t := rfl
@[simp] theorem State.elapse_holdOf (s : State) (d : Nat) (p : Port) : (s.elapse d).holdOf p = s.holdOf p := rfl
@[simp] theorem State.elapse_holdTimer (s : State) (d : Nat) : (s.elapse d).hold.timer = elapseTimer d s.hold.timer := rfl
@[simp] theorem State.elapse_port (s : State) (d : Nat) (p : Port) : (s.elapse d).port p = (s.port p).elapse d := by
  cases p <;> rfl
@[simp] theorem State.elapse_queue (s : State) (d : Nat) (p : Port) : (s.elapse d).queue p = s.queue p := by cases p <;> rfl
@[simp] theorem State.setHolder_holder (s : State) (b : Fin 16) (h : Holder) : (s.setHolder b h).holder b = h := by
  simp [State.setHolder, State.holder]
theorem State.setHolder_holder_eq (s : State) (b c : Fin 16) (h : Holder) :
    (s.setHolder b h).holder c = if c = b then h else s.holder c := by
  simp only [State.setHolder, State.holder, Fin.getElem_fin, Vector.getElem_set]
  split <;> split <;> first | rfl | (exfalso; simp_all [Fin.ext_iff]; try omega)
@[simp] theorem State.setHolder_bytes (s : State) (b : Fin 16) (h : Holder) : (s.setHolder b h).pool.bytes = s.pool.bytes := rfl
@[simp] theorem State.setBuffer_holder (s : State) (b c : Fin 16) (v : Vector Byte 256) :
    (s.setBuffer b v).holder c = s.holder c := rfl
@[simp] theorem State.moveReadPointer_suspendRequest (s : State) (p : Port) :
    (s.moveReadPointer p).arbiter.suspendRequest = s.arbiter.suspendRequest := rfl
@[simp] theorem State.moveReadPointer_resumeDue (s : State) (p : Port) :
    (s.moveReadPointer p).arbiter.resumeDue = s.arbiter.resumeDue := rfl
@[simp] theorem State.moveWritePointer_suspendRequest (s : State) (p : Port) :
    (s.moveWritePointer p).arbiter.suspendRequest = s.arbiter.suspendRequest := rfl
@[simp] theorem State.moveWritePointer_resumeDue (s : State) (p : Port) :
    (s.moveWritePointer p).arbiter.resumeDue = s.arbiter.resumeDue := rfl
@[simp] theorem State.setAuthority_committed (s : State) (a : Option Port) :
    (s.setAuthority a).profile.committed = s.profile.committed := rfl
@[simp] theorem State.clearStaging_committed (s : State) : s.clearStaging.profile.committed = s.profile.committed := rfl
@[simp] theorem State.setAuthority_prof (s : State) (a : Option Port) : (s.setAuthority a).prof = s.prof := rfl
@[simp] theorem State.clearStaging_prof (s : State) : s.clearStaging.prof = s.prof := rfl

/-! ### The updates of one port's record -/

@[simp] theorem State.modQueue_pool (s : State) (p : Port) (f : Queue → Queue) : (s.modQueue p f).pool = s.pool := rfl
@[simp] theorem State.modQueue_seq (s : State) (p : Port) (f : Queue → Queue) : (s.modQueue p f).seq = s.seq := rfl
@[simp] theorem State.modQueue_arbiter (s : State) (p : Port) (f : Queue → Queue) : (s.modQueue p f).arbiter = s.arbiter := rfl
@[simp] theorem State.modQueue_regions (s : State) (p : Port) (f : Queue → Queue) : (s.modQueue p f).regions = s.regions := rfl
@[simp] theorem State.modQueue_hold (s : State) (p : Port) (f : Queue → Queue) : (s.modQueue p f).hold = s.hold := rfl
@[simp] theorem State.modQueue_profile (s : State) (p : Port) (f : Queue → Queue) : (s.modQueue p f).profile = s.profile := rfl
@[simp] theorem State.modQueue_counters (s : State) (p : Port) (f : Queue → Queue) : (s.modQueue p f).counters = s.counters := rfl
@[simp] theorem State.modQueue_powerOnReset (s : State) (p : Port) (f : Queue → Queue) : (s.modQueue p f).powerOnReset = s.powerOnReset := rfl
@[simp] theorem State.modQueue_ticks (s : State) (p : Port) (f : Queue → Queue) : (s.modQueue p f).ticks = s.ticks := rfl
@[simp] theorem State.modQueue_pending (s : State) (p : Port) (f : Queue → Queue) : (s.modQueue p f).pending = s.pending := rfl
@[simp] theorem State.modQueue_holder (s : State) (p : Port) (f : Queue → Queue) (c : Fin 16) : (s.modQueue p f).holder c = s.holder c := rfl
@[simp] theorem State.modQueue_holdOf (s : State) (p : Port) (f : Queue → Queue) (q : Port) : (s.modQueue p f).holdOf q = s.holdOf q := rfl
@[simp] theorem State.modQueue_prof (s : State) (p : Port) (f : Queue → Queue) : (s.modQueue p f).prof = s.prof := rfl
@[simp] theorem State.modQueue_capacity (s : State) (p : Port) (f : Queue → Queue) : (s.modQueue p f).capacity = s.capacity := rfl
@[simp] theorem State.modQueue_port_peer (s : State) (p : Port) (f : Queue → Queue) : (s.modQueue p f).port p.peer = s.port p.peer := by simp [State.modQueue]
@[simp] theorem State.modQueue_port_of_peer (s : State) (p : Port) (f : Queue → Queue) : (s.modQueue p.peer f).port p = s.port p := by simp [State.modQueue]
@[simp] theorem State.modQueue_queue (s : State) (p : Port) (f : Queue → Queue) : (s.modQueue p f).queue p = f (s.queue p) := by
  simp [State.modQueue, State.queue]
@[simp] theorem State.modQueue_queue_peer (s : State) (p : Port) (f : Queue → Queue) : (s.modQueue p f).queue p.peer = s.queue p.peer := by
  simp [State.queue]
@[simp] theorem State.modQueue_claimRefused (s : State) (p : Port) (f : Queue → Queue) (q : Port) : ((s.modQueue p f).port q).claimRefused = (s.port q).claimRefused := by
  rcases Port.eq_or_peer p q with rfl | rfl <;> simp [State.modQueue]
@[simp] theorem State.modQueue_bufSel (s : State) (p : Port) (f : Queue → Queue) (q : Port) : ((s.modQueue p f).port q).bufSel = (s.port q).bufSel := by
  rcases Port.eq_or_peer p q with rfl | rfl <;> simp [State.modQueue]
@[simp] theorem State.modQueue_bufOfs (s : State) (p : Port) (f : Queue → Queue) (q : Port) : ((s.modQueue p f).port q).bufOfs = (s.port q).bufOfs := by
  rcases Port.eq_or_peer p q with rfl | rfl <;> simp [State.modQueue]
@[simp] theorem State.modQueue_holdTime (s : State) (p : Port) (f : Queue → Queue) (q : Port) : ((s.modQueue p f).port q).holdTime = (s.port q).holdTime := by
  rcases Port.eq_or_peer p q with rfl | rfl <;> simp [State.modQueue]
@[simp] theorem State.modQueue_cfgIdx (s : State) (p : Port) (f : Queue → Queue) (q : Port) : ((s.modQueue p f).port q).cfgIdx = (s.port q).cfgIdx := by
  rcases Port.eq_or_peer p q with rfl | rfl <;> simp [State.modQueue]
@[simp] theorem State.modQueue_result (s : State) (p : Port) (f : Queue → Queue) (q : Port) : ((s.modQueue p f).port q).result = (s.port q).result := by
  rcases Port.eq_or_peer p q with rfl | rfl <;> simp [State.modQueue]
@[simp] theorem State.modQueue_inReset (s : State) (p : Port) (f : Queue → Queue) (q : Port) : ((s.modQueue p f).port q).inReset = (s.port q).inReset := by
  rcases Port.eq_or_peer p q with rfl | rfl <;> simp [State.modQueue]
@[simp] theorem State.modQueue_dataOut (s : State) (p : Port) (f : Queue → Queue) (q : Port) : ((s.modQueue p f).port q).dataOut = (s.port q).dataOut := by
  rcases Port.eq_or_peer p q with rfl | rfl <;> simp [State.modQueue]
@[simp] theorem State.modQueue_aperture_frame (s : State) (p : Port) (f : Queue → Queue) (q : Port) : (s.modQueue p f).aperture q = s.aperture q := by
  rcases Port.eq_or_peer p q with rfl | rfl <;> simp [State.modQueue, State.aperture]
@[simp] theorem State.modQueue_events_frame (s : State) (p : Port) (f : Queue → Queue) (q : Port) : (s.modQueue p f).events q = s.events q := by
  rcases Port.eq_or_peer p q with rfl | rfl <;> simp [State.modQueue, State.events]

@[simp] theorem State.modAperture_pool (s : State) (p : Port) (f : Aperture → Aperture) : (s.modAperture p f).pool = s.pool := rfl
@[simp] theorem State.modAperture_seq (s : State) (p : Port) (f : Aperture → Aperture) : (s.modAperture p f).seq = s.seq := rfl
@[simp] theorem State.modAperture_arbiter (s : State) (p : Port) (f : Aperture → Aperture) : (s.modAperture p f).arbiter = s.arbiter := rfl
@[simp] theorem State.modAperture_regions (s : State) (p : Port) (f : Aperture → Aperture) : (s.modAperture p f).regions = s.regions := rfl
@[simp] theorem State.modAperture_hold (s : State) (p : Port) (f : Aperture → Aperture) : (s.modAperture p f).hold = s.hold := rfl
@[simp] theorem State.modAperture_profile (s : State) (p : Port) (f : Aperture → Aperture) : (s.modAperture p f).profile = s.profile := rfl
@[simp] theorem State.modAperture_counters (s : State) (p : Port) (f : Aperture → Aperture) : (s.modAperture p f).counters = s.counters := rfl
@[simp] theorem State.modAperture_powerOnReset (s : State) (p : Port) (f : Aperture → Aperture) : (s.modAperture p f).powerOnReset = s.powerOnReset := rfl
@[simp] theorem State.modAperture_ticks (s : State) (p : Port) (f : Aperture → Aperture) : (s.modAperture p f).ticks = s.ticks := rfl
@[simp] theorem State.modAperture_pending (s : State) (p : Port) (f : Aperture → Aperture) : (s.modAperture p f).pending = s.pending := rfl
@[simp] theorem State.modAperture_holder (s : State) (p : Port) (f : Aperture → Aperture) (c : Fin 16) : (s.modAperture p f).holder c = s.holder c := rfl
@[simp] theorem State.modAperture_holdOf (s : State) (p : Port) (f : Aperture → Aperture) (q : Port) : (s.modAperture p f).holdOf q = s.holdOf q := rfl
@[simp] theorem State.modAperture_prof (s : State) (p : Port) (f : Aperture → Aperture) : (s.modAperture p f).prof = s.prof := rfl
@[simp] theorem State.modAperture_capacity (s : State) (p : Port) (f : Aperture → Aperture) : (s.modAperture p f).capacity = s.capacity := rfl
@[simp] theorem State.modAperture_port_peer (s : State) (p : Port) (f : Aperture → Aperture) : (s.modAperture p f).port p.peer = s.port p.peer := by simp [State.modAperture]
@[simp] theorem State.modAperture_port_of_peer (s : State) (p : Port) (f : Aperture → Aperture) : (s.modAperture p.peer f).port p = s.port p := by simp [State.modAperture]
@[simp] theorem State.modAperture_aperture (s : State) (p : Port) (f : Aperture → Aperture) : (s.modAperture p f).aperture p = f (s.aperture p) := by
  simp [State.modAperture, State.aperture]
@[simp] theorem State.modAperture_aperture_peer (s : State) (p : Port) (f : Aperture → Aperture) : (s.modAperture p f).aperture p.peer = s.aperture p.peer := by
  simp [State.aperture]
@[simp] theorem State.modAperture_claimRefused (s : State) (p : Port) (f : Aperture → Aperture) (q : Port) : ((s.modAperture p f).port q).claimRefused = (s.port q).claimRefused := by
  rcases Port.eq_or_peer p q with rfl | rfl <;> simp [State.modAperture]
@[simp] theorem State.modAperture_bufSel (s : State) (p : Port) (f : Aperture → Aperture) (q : Port) : ((s.modAperture p f).port q).bufSel = (s.port q).bufSel := by
  rcases Port.eq_or_peer p q with rfl | rfl <;> simp [State.modAperture]
@[simp] theorem State.modAperture_bufOfs (s : State) (p : Port) (f : Aperture → Aperture) (q : Port) : ((s.modAperture p f).port q).bufOfs = (s.port q).bufOfs := by
  rcases Port.eq_or_peer p q with rfl | rfl <;> simp [State.modAperture]
@[simp] theorem State.modAperture_holdTime (s : State) (p : Port) (f : Aperture → Aperture) (q : Port) : ((s.modAperture p f).port q).holdTime = (s.port q).holdTime := by
  rcases Port.eq_or_peer p q with rfl | rfl <;> simp [State.modAperture]
@[simp] theorem State.modAperture_cfgIdx (s : State) (p : Port) (f : Aperture → Aperture) (q : Port) : ((s.modAperture p f).port q).cfgIdx = (s.port q).cfgIdx := by
  rcases Port.eq_or_peer p q with rfl | rfl <;> simp [State.modAperture]
@[simp] theorem State.modAperture_result (s : State) (p : Port) (f : Aperture → Aperture) (q : Port) : ((s.modAperture p f).port q).result = (s.port q).result := by
  rcases Port.eq_or_peer p q with rfl | rfl <;> simp [State.modAperture]
@[simp] theorem State.modAperture_inReset (s : State) (p : Port) (f : Aperture → Aperture) (q : Port) : ((s.modAperture p f).port q).inReset = (s.port q).inReset := by
  rcases Port.eq_or_peer p q with rfl | rfl <;> simp [State.modAperture]
@[simp] theorem State.modAperture_dataOut (s : State) (p : Port) (f : Aperture → Aperture) (q : Port) : ((s.modAperture p f).port q).dataOut = (s.port q).dataOut := by
  rcases Port.eq_or_peer p q with rfl | rfl <;> simp [State.modAperture]
@[simp] theorem State.modAperture_queue_frame (s : State) (p : Port) (f : Aperture → Aperture) (q : Port) : (s.modAperture p f).queue q = s.queue q := by
  rcases Port.eq_or_peer p q with rfl | rfl <;> simp [State.modAperture, State.queue]
@[simp] theorem State.modAperture_events_frame (s : State) (p : Port) (f : Aperture → Aperture) (q : Port) : (s.modAperture p f).events q = s.events q := by
  rcases Port.eq_or_peer p q with rfl | rfl <;> simp [State.modAperture, State.events]

@[simp] theorem State.setResult_pool (s : State) (p : Port) (r : Result) : (s.setResult p r).pool = s.pool := rfl
@[simp] theorem State.setResult_seq (s : State) (p : Port) (r : Result) : (s.setResult p r).seq = s.seq := rfl
@[simp] theorem State.setResult_arbiter (s : State) (p : Port) (r : Result) : (s.setResult p r).arbiter = s.arbiter := rfl
@[simp] theorem State.setResult_regions (s : State) (p : Port) (r : Result) : (s.setResult p r).regions = s.regions := rfl
@[simp] theorem State.setResult_hold (s : State) (p : Port) (r : Result) : (s.setResult p r).hold = s.hold := rfl
@[simp] theorem State.setResult_profile (s : State) (p : Port) (r : Result) : (s.setResult p r).profile = s.profile := rfl
@[simp] theorem State.setResult_counters (s : State) (p : Port) (r : Result) : (s.setResult p r).counters = s.counters := rfl
@[simp] theorem State.setResult_powerOnReset (s : State) (p : Port) (r : Result) : (s.setResult p r).powerOnReset = s.powerOnReset := rfl
@[simp] theorem State.setResult_ticks (s : State) (p : Port) (r : Result) : (s.setResult p r).ticks = s.ticks := rfl
@[simp] theorem State.setResult_pending (s : State) (p : Port) (r : Result) : (s.setResult p r).pending = s.pending := rfl
@[simp] theorem State.setResult_holder (s : State) (p : Port) (r : Result) (c : Fin 16) : (s.setResult p r).holder c = s.holder c := rfl
@[simp] theorem State.setResult_holdOf (s : State) (p : Port) (r : Result) (q : Port) : (s.setResult p r).holdOf q = s.holdOf q := rfl
@[simp] theorem State.setResult_prof (s : State) (p : Port) (r : Result) : (s.setResult p r).prof = s.prof := rfl
@[simp] theorem State.setResult_capacity (s : State) (p : Port) (r : Result) : (s.setResult p r).capacity = s.capacity := rfl
@[simp] theorem State.setResult_port_peer (s : State) (p : Port) (r : Result) : (s.setResult p r).port p.peer = s.port p.peer := by simp [State.setResult]
@[simp] theorem State.setResult_port_of_peer (s : State) (p : Port) (r : Result) : (s.setResult p.peer r).port p = s.port p := by simp [State.setResult]
@[simp] theorem State.setResult_claimRefused (s : State) (p : Port) (r : Result) (q : Port) : ((s.setResult p r).port q).claimRefused = (s.port q).claimRefused := by
  rcases Port.eq_or_peer p q with rfl | rfl <;> simp [State.setResult]
@[simp] theorem State.setResult_bufSel (s : State) (p : Port) (r : Result) (q : Port) : ((s.setResult p r).port q).bufSel = (s.port q).bufSel := by
  rcases Port.eq_or_peer p q with rfl | rfl <;> simp [State.setResult]
@[simp] theorem State.setResult_bufOfs (s : State) (p : Port) (r : Result) (q : Port) : ((s.setResult p r).port q).bufOfs = (s.port q).bufOfs := by
  rcases Port.eq_or_peer p q with rfl | rfl <;> simp [State.setResult]
@[simp] theorem State.setResult_holdTime (s : State) (p : Port) (r : Result) (q : Port) : ((s.setResult p r).port q).holdTime = (s.port q).holdTime := by
  rcases Port.eq_or_peer p q with rfl | rfl <;> simp [State.setResult]
@[simp] theorem State.setResult_cfgIdx (s : State) (p : Port) (r : Result) (q : Port) : ((s.setResult p r).port q).cfgIdx = (s.port q).cfgIdx := by
  rcases Port.eq_or_peer p q with rfl | rfl <;> simp [State.setResult]
@[simp] theorem State.setResult_inReset (s : State) (p : Port) (r : Result) (q : Port) : ((s.setResult p r).port q).inReset = (s.port q).inReset := by
  rcases Port.eq_or_peer p q with rfl | rfl <;> simp [State.setResult]
@[simp] theorem State.setResult_dataOut (s : State) (p : Port) (r : Result) (q : Port) : ((s.setResult p r).port q).dataOut = (s.port q).dataOut := by
  rcases Port.eq_or_peer p q with rfl | rfl <;> simp [State.setResult]
@[simp] theorem State.setResult_queue_frame (s : State) (p : Port) (r : Result) (q : Port) : (s.setResult p r).queue q = s.queue q := by
  rcases Port.eq_or_peer p q with rfl | rfl <;> simp [State.setResult, State.queue]
@[simp] theorem State.setResult_aperture_frame (s : State) (p : Port) (r : Result) (q : Port) : (s.setResult p r).aperture q = s.aperture q := by
  rcases Port.eq_or_peer p q with rfl | rfl <;> simp [State.setResult, State.aperture]
@[simp] theorem State.setResult_events_frame (s : State) (p : Port) (r : Result) (q : Port) : (s.setResult p r).events q = s.events q := by
  rcases Port.eq_or_peer p q with rfl | rfl <;> simp [State.setResult, State.events]

@[simp] theorem State.drive_pool (s : State) (p : Port) (d : Option Byte) : (s.drive p d).pool = s.pool := rfl
@[simp] theorem State.drive_seq (s : State) (p : Port) (d : Option Byte) : (s.drive p d).seq = s.seq := rfl
@[simp] theorem State.drive_arbiter (s : State) (p : Port) (d : Option Byte) : (s.drive p d).arbiter = s.arbiter := rfl
@[simp] theorem State.drive_regions (s : State) (p : Port) (d : Option Byte) : (s.drive p d).regions = s.regions := rfl
@[simp] theorem State.drive_hold (s : State) (p : Port) (d : Option Byte) : (s.drive p d).hold = s.hold := rfl
@[simp] theorem State.drive_profile (s : State) (p : Port) (d : Option Byte) : (s.drive p d).profile = s.profile := rfl
@[simp] theorem State.drive_counters (s : State) (p : Port) (d : Option Byte) : (s.drive p d).counters = s.counters := rfl
@[simp] theorem State.drive_powerOnReset (s : State) (p : Port) (d : Option Byte) : (s.drive p d).powerOnReset = s.powerOnReset := rfl
@[simp] theorem State.drive_ticks (s : State) (p : Port) (d : Option Byte) : (s.drive p d).ticks = s.ticks := rfl
@[simp] theorem State.drive_pending (s : State) (p : Port) (d : Option Byte) : (s.drive p d).pending = s.pending := rfl
@[simp] theorem State.drive_holder (s : State) (p : Port) (d : Option Byte) (c : Fin 16) : (s.drive p d).holder c = s.holder c := rfl
@[simp] theorem State.drive_holdOf (s : State) (p : Port) (d : Option Byte) (q : Port) : (s.drive p d).holdOf q = s.holdOf q := rfl
@[simp] theorem State.drive_prof (s : State) (p : Port) (d : Option Byte) : (s.drive p d).prof = s.prof := rfl
@[simp] theorem State.drive_capacity (s : State) (p : Port) (d : Option Byte) : (s.drive p d).capacity = s.capacity := rfl
@[simp] theorem State.drive_port_peer (s : State) (p : Port) (d : Option Byte) : (s.drive p d).port p.peer = s.port p.peer := by simp [State.drive]
@[simp] theorem State.drive_port_of_peer (s : State) (p : Port) (d : Option Byte) : (s.drive p.peer d).port p = s.port p := by simp [State.drive]
@[simp] theorem State.drive_claimRefused (s : State) (p : Port) (d : Option Byte) (q : Port) : ((s.drive p d).port q).claimRefused = (s.port q).claimRefused := by
  rcases Port.eq_or_peer p q with rfl | rfl <;> simp [State.drive]
@[simp] theorem State.drive_bufSel (s : State) (p : Port) (d : Option Byte) (q : Port) : ((s.drive p d).port q).bufSel = (s.port q).bufSel := by
  rcases Port.eq_or_peer p q with rfl | rfl <;> simp [State.drive]
@[simp] theorem State.drive_bufOfs (s : State) (p : Port) (d : Option Byte) (q : Port) : ((s.drive p d).port q).bufOfs = (s.port q).bufOfs := by
  rcases Port.eq_or_peer p q with rfl | rfl <;> simp [State.drive]
@[simp] theorem State.drive_holdTime (s : State) (p : Port) (d : Option Byte) (q : Port) : ((s.drive p d).port q).holdTime = (s.port q).holdTime := by
  rcases Port.eq_or_peer p q with rfl | rfl <;> simp [State.drive]
@[simp] theorem State.drive_cfgIdx (s : State) (p : Port) (d : Option Byte) (q : Port) : ((s.drive p d).port q).cfgIdx = (s.port q).cfgIdx := by
  rcases Port.eq_or_peer p q with rfl | rfl <;> simp [State.drive]
@[simp] theorem State.drive_result (s : State) (p : Port) (d : Option Byte) (q : Port) : ((s.drive p d).port q).result = (s.port q).result := by
  rcases Port.eq_or_peer p q with rfl | rfl <;> simp [State.drive]
@[simp] theorem State.drive_inReset (s : State) (p : Port) (d : Option Byte) (q : Port) : ((s.drive p d).port q).inReset = (s.port q).inReset := by
  rcases Port.eq_or_peer p q with rfl | rfl <;> simp [State.drive]
@[simp] theorem State.drive_queue_frame (s : State) (p : Port) (d : Option Byte) (q : Port) : (s.drive p d).queue q = s.queue q := by
  rcases Port.eq_or_peer p q with rfl | rfl <;> simp [State.drive, State.queue]
@[simp] theorem State.drive_aperture_frame (s : State) (p : Port) (d : Option Byte) (q : Port) : (s.drive p d).aperture q = s.aperture q := by
  rcases Port.eq_or_peer p q with rfl | rfl <;> simp [State.drive, State.aperture]
@[simp] theorem State.drive_events_frame (s : State) (p : Port) (d : Option Byte) (q : Port) : (s.drive p d).events q = s.events q := by
  rcases Port.eq_or_peer p q with rfl | rfl <;> simp [State.drive, State.events]

@[simp] theorem State.setInReset_pool (s : State) (p : Port) (b : Bool) : (s.setInReset p b).pool = s.pool := rfl
@[simp] theorem State.setInReset_seq (s : State) (p : Port) (b : Bool) : (s.setInReset p b).seq = s.seq := rfl
@[simp] theorem State.setInReset_arbiter (s : State) (p : Port) (b : Bool) : (s.setInReset p b).arbiter = s.arbiter := rfl
@[simp] theorem State.setInReset_regions (s : State) (p : Port) (b : Bool) : (s.setInReset p b).regions = s.regions := rfl
@[simp] theorem State.setInReset_hold (s : State) (p : Port) (b : Bool) : (s.setInReset p b).hold = s.hold := rfl
@[simp] theorem State.setInReset_profile (s : State) (p : Port) (b : Bool) : (s.setInReset p b).profile = s.profile := rfl
@[simp] theorem State.setInReset_counters (s : State) (p : Port) (b : Bool) : (s.setInReset p b).counters = s.counters := rfl
@[simp] theorem State.setInReset_powerOnReset (s : State) (p : Port) (b : Bool) : (s.setInReset p b).powerOnReset = s.powerOnReset := rfl
@[simp] theorem State.setInReset_ticks (s : State) (p : Port) (b : Bool) : (s.setInReset p b).ticks = s.ticks := rfl
@[simp] theorem State.setInReset_pending (s : State) (p : Port) (b : Bool) : (s.setInReset p b).pending = s.pending := rfl
@[simp] theorem State.setInReset_holder (s : State) (p : Port) (b : Bool) (c : Fin 16) : (s.setInReset p b).holder c = s.holder c := rfl
@[simp] theorem State.setInReset_holdOf (s : State) (p : Port) (b : Bool) (q : Port) : (s.setInReset p b).holdOf q = s.holdOf q := rfl
@[simp] theorem State.setInReset_prof (s : State) (p : Port) (b : Bool) : (s.setInReset p b).prof = s.prof := rfl
@[simp] theorem State.setInReset_capacity (s : State) (p : Port) (b : Bool) : (s.setInReset p b).capacity = s.capacity := rfl
@[simp] theorem State.setInReset_port_peer (s : State) (p : Port) (b : Bool) : (s.setInReset p b).port p.peer = s.port p.peer := by simp [State.setInReset]
@[simp] theorem State.setInReset_port_of_peer (s : State) (p : Port) (b : Bool) : (s.setInReset p.peer b).port p = s.port p := by simp [State.setInReset]
@[simp] theorem State.setInReset_claimRefused (s : State) (p : Port) (b : Bool) (q : Port) : ((s.setInReset p b).port q).claimRefused = (s.port q).claimRefused := by
  rcases Port.eq_or_peer p q with rfl | rfl <;> simp [State.setInReset]
@[simp] theorem State.setInReset_bufSel (s : State) (p : Port) (b : Bool) (q : Port) : ((s.setInReset p b).port q).bufSel = (s.port q).bufSel := by
  rcases Port.eq_or_peer p q with rfl | rfl <;> simp [State.setInReset]
@[simp] theorem State.setInReset_bufOfs (s : State) (p : Port) (b : Bool) (q : Port) : ((s.setInReset p b).port q).bufOfs = (s.port q).bufOfs := by
  rcases Port.eq_or_peer p q with rfl | rfl <;> simp [State.setInReset]
@[simp] theorem State.setInReset_holdTime (s : State) (p : Port) (b : Bool) (q : Port) : ((s.setInReset p b).port q).holdTime = (s.port q).holdTime := by
  rcases Port.eq_or_peer p q with rfl | rfl <;> simp [State.setInReset]
@[simp] theorem State.setInReset_cfgIdx (s : State) (p : Port) (b : Bool) (q : Port) : ((s.setInReset p b).port q).cfgIdx = (s.port q).cfgIdx := by
  rcases Port.eq_or_peer p q with rfl | rfl <;> simp [State.setInReset]
@[simp] theorem State.setInReset_result (s : State) (p : Port) (b : Bool) (q : Port) : ((s.setInReset p b).port q).result = (s.port q).result := by
  rcases Port.eq_or_peer p q with rfl | rfl <;> simp [State.setInReset]
@[simp] theorem State.setInReset_dataOut (s : State) (p : Port) (b : Bool) (q : Port) : ((s.setInReset p b).port q).dataOut = (s.port q).dataOut := by
  rcases Port.eq_or_peer p q with rfl | rfl <;> simp [State.setInReset]
@[simp] theorem State.setInReset_queue_frame (s : State) (p : Port) (b : Bool) (q : Port) : (s.setInReset p b).queue q = s.queue q := by
  rcases Port.eq_or_peer p q with rfl | rfl <;> simp [State.setInReset, State.queue]
@[simp] theorem State.setInReset_aperture_frame (s : State) (p : Port) (b : Bool) (q : Port) : (s.setInReset p b).aperture q = s.aperture q := by
  rcases Port.eq_or_peer p q with rfl | rfl <;> simp [State.setInReset, State.aperture]
@[simp] theorem State.setInReset_events_frame (s : State) (p : Port) (b : Bool) (q : Port) : (s.setInReset p b).events q = s.events q := by
  rcases Port.eq_or_peer p q with rfl | rfl <;> simp [State.setInReset, State.events]

@[simp] theorem State.markRefused_pool (s : State) (p : Port) : (s.markRefused p).pool = s.pool := rfl
@[simp] theorem State.markRefused_seq (s : State) (p : Port) : (s.markRefused p).seq = s.seq := rfl
@[simp] theorem State.markRefused_arbiter (s : State) (p : Port) : (s.markRefused p).arbiter = s.arbiter := rfl
@[simp] theorem State.markRefused_regions (s : State) (p : Port) : (s.markRefused p).regions = s.regions := rfl
@[simp] theorem State.markRefused_hold (s : State) (p : Port) : (s.markRefused p).hold = s.hold := rfl
@[simp] theorem State.markRefused_profile (s : State) (p : Port) : (s.markRefused p).profile = s.profile := rfl
@[simp] theorem State.markRefused_counters (s : State) (p : Port) : (s.markRefused p).counters = s.counters := rfl
@[simp] theorem State.markRefused_powerOnReset (s : State) (p : Port) : (s.markRefused p).powerOnReset = s.powerOnReset := rfl
@[simp] theorem State.markRefused_ticks (s : State) (p : Port) : (s.markRefused p).ticks = s.ticks := rfl
@[simp] theorem State.markRefused_pending (s : State) (p : Port) : (s.markRefused p).pending = s.pending := rfl
@[simp] theorem State.markRefused_holder (s : State) (p : Port) (c : Fin 16) : (s.markRefused p).holder c = s.holder c := rfl
@[simp] theorem State.markRefused_holdOf (s : State) (p : Port) (q : Port) : (s.markRefused p).holdOf q = s.holdOf q := rfl
@[simp] theorem State.markRefused_prof (s : State) (p : Port) : (s.markRefused p).prof = s.prof := rfl
@[simp] theorem State.markRefused_capacity (s : State) (p : Port) : (s.markRefused p).capacity = s.capacity := rfl
@[simp] theorem State.markRefused_port_peer (s : State) (p : Port) : (s.markRefused p).port p.peer = s.port p.peer := by simp [State.markRefused]
@[simp] theorem State.markRefused_port_of_peer (s : State) (p : Port) : (s.markRefused p.peer ).port p = s.port p := by simp [State.markRefused]
@[simp] theorem State.markRefused_bufSel (s : State) (p : Port) (q : Port) : ((s.markRefused p).port q).bufSel = (s.port q).bufSel := by
  rcases Port.eq_or_peer p q with rfl | rfl <;> simp [State.markRefused]
@[simp] theorem State.markRefused_bufOfs (s : State) (p : Port) (q : Port) : ((s.markRefused p).port q).bufOfs = (s.port q).bufOfs := by
  rcases Port.eq_or_peer p q with rfl | rfl <;> simp [State.markRefused]
@[simp] theorem State.markRefused_holdTime (s : State) (p : Port) (q : Port) : ((s.markRefused p).port q).holdTime = (s.port q).holdTime := by
  rcases Port.eq_or_peer p q with rfl | rfl <;> simp [State.markRefused]
@[simp] theorem State.markRefused_cfgIdx (s : State) (p : Port) (q : Port) : ((s.markRefused p).port q).cfgIdx = (s.port q).cfgIdx := by
  rcases Port.eq_or_peer p q with rfl | rfl <;> simp [State.markRefused]
@[simp] theorem State.markRefused_result (s : State) (p : Port) (q : Port) : ((s.markRefused p).port q).result = (s.port q).result := by
  rcases Port.eq_or_peer p q with rfl | rfl <;> simp [State.markRefused]
@[simp] theorem State.markRefused_inReset (s : State) (p : Port) (q : Port) : ((s.markRefused p).port q).inReset = (s.port q).inReset := by
  rcases Port.eq_or_peer p q with rfl | rfl <;> simp [State.markRefused]
@[simp] theorem State.markRefused_dataOut (s : State) (p : Port) (q : Port) : ((s.markRefused p).port q).dataOut = (s.port q).dataOut := by
  rcases Port.eq_or_peer p q with rfl | rfl <;> simp [State.markRefused]
@[simp] theorem State.markRefused_queue_frame (s : State) (p : Port) (q : Port) : (s.markRefused p).queue q = s.queue q := by
  rcases Port.eq_or_peer p q with rfl | rfl <;> simp [State.markRefused, State.queue]
@[simp] theorem State.markRefused_aperture_frame (s : State) (p : Port) (q : Port) : (s.markRefused p).aperture q = s.aperture q := by
  rcases Port.eq_or_peer p q with rfl | rfl <;> simp [State.markRefused, State.aperture]
@[simp] theorem State.markRefused_events_frame (s : State) (p : Port) (q : Port) : (s.markRefused p).events q = s.events q := by
  rcases Port.eq_or_peer p q with rfl | rfl <;> simp [State.markRefused, State.events]

@[simp] theorem State.advanceBufOfs_pool (s : State) (p : Port) : (s.advanceBufOfs p).pool = s.pool := rfl
@[simp] theorem State.advanceBufOfs_seq (s : State) (p : Port) : (s.advanceBufOfs p).seq = s.seq := rfl
@[simp] theorem State.advanceBufOfs_arbiter (s : State) (p : Port) : (s.advanceBufOfs p).arbiter = s.arbiter := rfl
@[simp] theorem State.advanceBufOfs_regions (s : State) (p : Port) : (s.advanceBufOfs p).regions = s.regions := rfl
@[simp] theorem State.advanceBufOfs_hold (s : State) (p : Port) : (s.advanceBufOfs p).hold = s.hold := rfl
@[simp] theorem State.advanceBufOfs_profile (s : State) (p : Port) : (s.advanceBufOfs p).profile = s.profile := rfl
@[simp] theorem State.advanceBufOfs_counters (s : State) (p : Port) : (s.advanceBufOfs p).counters = s.counters := rfl
@[simp] theorem State.advanceBufOfs_powerOnReset (s : State) (p : Port) : (s.advanceBufOfs p).powerOnReset = s.powerOnReset := rfl
@[simp] theorem State.advanceBufOfs_ticks (s : State) (p : Port) : (s.advanceBufOfs p).ticks = s.ticks := rfl
@[simp] theorem State.advanceBufOfs_pending (s : State) (p : Port) : (s.advanceBufOfs p).pending = s.pending := rfl
@[simp] theorem State.advanceBufOfs_holder (s : State) (p : Port) (c : Fin 16) : (s.advanceBufOfs p).holder c = s.holder c := rfl
@[simp] theorem State.advanceBufOfs_holdOf (s : State) (p : Port) (q : Port) : (s.advanceBufOfs p).holdOf q = s.holdOf q := rfl
@[simp] theorem State.advanceBufOfs_prof (s : State) (p : Port) : (s.advanceBufOfs p).prof = s.prof := rfl
@[simp] theorem State.advanceBufOfs_capacity (s : State) (p : Port) : (s.advanceBufOfs p).capacity = s.capacity := rfl
@[simp] theorem State.advanceBufOfs_port_peer (s : State) (p : Port) : (s.advanceBufOfs p).port p.peer = s.port p.peer := by simp [State.advanceBufOfs]
@[simp] theorem State.advanceBufOfs_port_of_peer (s : State) (p : Port) : (s.advanceBufOfs p.peer ).port p = s.port p := by simp [State.advanceBufOfs]
@[simp] theorem State.advanceBufOfs_claimRefused (s : State) (p : Port) (q : Port) : ((s.advanceBufOfs p).port q).claimRefused = (s.port q).claimRefused := by
  rcases Port.eq_or_peer p q with rfl | rfl <;> simp [State.advanceBufOfs]
@[simp] theorem State.advanceBufOfs_bufSel (s : State) (p : Port) (q : Port) : ((s.advanceBufOfs p).port q).bufSel = (s.port q).bufSel := by
  rcases Port.eq_or_peer p q with rfl | rfl <;> simp [State.advanceBufOfs]
@[simp] theorem State.advanceBufOfs_holdTime (s : State) (p : Port) (q : Port) : ((s.advanceBufOfs p).port q).holdTime = (s.port q).holdTime := by
  rcases Port.eq_or_peer p q with rfl | rfl <;> simp [State.advanceBufOfs]
@[simp] theorem State.advanceBufOfs_cfgIdx (s : State) (p : Port) (q : Port) : ((s.advanceBufOfs p).port q).cfgIdx = (s.port q).cfgIdx := by
  rcases Port.eq_or_peer p q with rfl | rfl <;> simp [State.advanceBufOfs]
@[simp] theorem State.advanceBufOfs_result (s : State) (p : Port) (q : Port) : ((s.advanceBufOfs p).port q).result = (s.port q).result := by
  rcases Port.eq_or_peer p q with rfl | rfl <;> simp [State.advanceBufOfs]
@[simp] theorem State.advanceBufOfs_inReset (s : State) (p : Port) (q : Port) : ((s.advanceBufOfs p).port q).inReset = (s.port q).inReset := by
  rcases Port.eq_or_peer p q with rfl | rfl <;> simp [State.advanceBufOfs]
@[simp] theorem State.advanceBufOfs_dataOut (s : State) (p : Port) (q : Port) : ((s.advanceBufOfs p).port q).dataOut = (s.port q).dataOut := by
  rcases Port.eq_or_peer p q with rfl | rfl <;> simp [State.advanceBufOfs]
@[simp] theorem State.advanceBufOfs_queue_frame (s : State) (p : Port) (q : Port) : (s.advanceBufOfs p).queue q = s.queue q := by
  rcases Port.eq_or_peer p q with rfl | rfl <;> simp [State.advanceBufOfs, State.queue]
@[simp] theorem State.advanceBufOfs_aperture_frame (s : State) (p : Port) (q : Port) : (s.advanceBufOfs p).aperture q = s.aperture q := by
  rcases Port.eq_or_peer p q with rfl | rfl <;> simp [State.advanceBufOfs, State.aperture]
@[simp] theorem State.advanceBufOfs_events_frame (s : State) (p : Port) (q : Port) : (s.advanceBufOfs p).events q = s.events q := by
  rcases Port.eq_or_peer p q with rfl | rfl <;> simp [State.advanceBufOfs, State.events]

@[simp] theorem State.advanceCfgIdx_pool (s : State) (p : Port) : (s.advanceCfgIdx p).pool = s.pool := rfl
@[simp] theorem State.advanceCfgIdx_seq (s : State) (p : Port) : (s.advanceCfgIdx p).seq = s.seq := rfl
@[simp] theorem State.advanceCfgIdx_arbiter (s : State) (p : Port) : (s.advanceCfgIdx p).arbiter = s.arbiter := rfl
@[simp] theorem State.advanceCfgIdx_regions (s : State) (p : Port) : (s.advanceCfgIdx p).regions = s.regions := rfl
@[simp] theorem State.advanceCfgIdx_hold (s : State) (p : Port) : (s.advanceCfgIdx p).hold = s.hold := rfl
@[simp] theorem State.advanceCfgIdx_profile (s : State) (p : Port) : (s.advanceCfgIdx p).profile = s.profile := rfl
@[simp] theorem State.advanceCfgIdx_counters (s : State) (p : Port) : (s.advanceCfgIdx p).counters = s.counters := rfl
@[simp] theorem State.advanceCfgIdx_powerOnReset (s : State) (p : Port) : (s.advanceCfgIdx p).powerOnReset = s.powerOnReset := rfl
@[simp] theorem State.advanceCfgIdx_ticks (s : State) (p : Port) : (s.advanceCfgIdx p).ticks = s.ticks := rfl
@[simp] theorem State.advanceCfgIdx_pending (s : State) (p : Port) : (s.advanceCfgIdx p).pending = s.pending := rfl
@[simp] theorem State.advanceCfgIdx_holder (s : State) (p : Port) (c : Fin 16) : (s.advanceCfgIdx p).holder c = s.holder c := rfl
@[simp] theorem State.advanceCfgIdx_holdOf (s : State) (p : Port) (q : Port) : (s.advanceCfgIdx p).holdOf q = s.holdOf q := rfl
@[simp] theorem State.advanceCfgIdx_prof (s : State) (p : Port) : (s.advanceCfgIdx p).prof = s.prof := rfl
@[simp] theorem State.advanceCfgIdx_capacity (s : State) (p : Port) : (s.advanceCfgIdx p).capacity = s.capacity := rfl
@[simp] theorem State.advanceCfgIdx_port_peer (s : State) (p : Port) : (s.advanceCfgIdx p).port p.peer = s.port p.peer := by simp [State.advanceCfgIdx]
@[simp] theorem State.advanceCfgIdx_port_of_peer (s : State) (p : Port) : (s.advanceCfgIdx p.peer ).port p = s.port p := by simp [State.advanceCfgIdx]
@[simp] theorem State.advanceCfgIdx_claimRefused (s : State) (p : Port) (q : Port) : ((s.advanceCfgIdx p).port q).claimRefused = (s.port q).claimRefused := by
  rcases Port.eq_or_peer p q with rfl | rfl <;> simp [State.advanceCfgIdx]
@[simp] theorem State.advanceCfgIdx_bufSel (s : State) (p : Port) (q : Port) : ((s.advanceCfgIdx p).port q).bufSel = (s.port q).bufSel := by
  rcases Port.eq_or_peer p q with rfl | rfl <;> simp [State.advanceCfgIdx]
@[simp] theorem State.advanceCfgIdx_bufOfs (s : State) (p : Port) (q : Port) : ((s.advanceCfgIdx p).port q).bufOfs = (s.port q).bufOfs := by
  rcases Port.eq_or_peer p q with rfl | rfl <;> simp [State.advanceCfgIdx]
@[simp] theorem State.advanceCfgIdx_holdTime (s : State) (p : Port) (q : Port) : ((s.advanceCfgIdx p).port q).holdTime = (s.port q).holdTime := by
  rcases Port.eq_or_peer p q with rfl | rfl <;> simp [State.advanceCfgIdx]
@[simp] theorem State.advanceCfgIdx_result (s : State) (p : Port) (q : Port) : ((s.advanceCfgIdx p).port q).result = (s.port q).result := by
  rcases Port.eq_or_peer p q with rfl | rfl <;> simp [State.advanceCfgIdx]
@[simp] theorem State.advanceCfgIdx_inReset (s : State) (p : Port) (q : Port) : ((s.advanceCfgIdx p).port q).inReset = (s.port q).inReset := by
  rcases Port.eq_or_peer p q with rfl | rfl <;> simp [State.advanceCfgIdx]
@[simp] theorem State.advanceCfgIdx_dataOut (s : State) (p : Port) (q : Port) : ((s.advanceCfgIdx p).port q).dataOut = (s.port q).dataOut := by
  rcases Port.eq_or_peer p q with rfl | rfl <;> simp [State.advanceCfgIdx]
@[simp] theorem State.advanceCfgIdx_queue_frame (s : State) (p : Port) (q : Port) : (s.advanceCfgIdx p).queue q = s.queue q := by
  rcases Port.eq_or_peer p q with rfl | rfl <;> simp [State.advanceCfgIdx, State.queue]
@[simp] theorem State.advanceCfgIdx_aperture_frame (s : State) (p : Port) (q : Port) : (s.advanceCfgIdx p).aperture q = s.aperture q := by
  rcases Port.eq_or_peer p q with rfl | rfl <;> simp [State.advanceCfgIdx, State.aperture]
@[simp] theorem State.advanceCfgIdx_events_frame (s : State) (p : Port) (q : Port) : (s.advanceCfgIdx p).events q = s.events q := by
  rcases Port.eq_or_peer p q with rfl | rfl <;> simp [State.advanceCfgIdx, State.events]

theorem State.modQueue_queue_eq (s : State) (p q : Port) (f : Queue → Queue) :
    (s.modQueue p f).queue q = if q = p then f (s.queue p) else s.queue q := by
  rcases Port.eq_or_peer p q with rfl | rfl <;> simp
theorem State.modAperture_aperture_eq (s : State) (p q : Port) (f : Aperture → Aperture) :
    (s.modAperture p f).aperture q = if q = p then f (s.aperture p) else s.aperture q := by
  rcases Port.eq_or_peer p q with rfl | rfl <;> simp
@[simp] theorem State.setResult_result_self (s : State) (p : Port) (r : Result) : ((s.setResult p r).port p).result = r := by
  simp [State.setResult]
@[simp] theorem State.setResult_accessTaken (s : State) (p q : Port) (r : Result) :
    (s.setResult p r).accessTaken q = s.accessTaken q := by
  rcases Port.eq_or_peer p q with rfl | rfl <;> simp [State.accessTaken, State.setResult, State.aperture]

/-! ### The updates of the sequencer -/

@[simp] theorem State.setSeqState_ports (s : State) (x : SeqState) : (s.setSeqState x).ports = s.ports := rfl
@[simp] theorem State.setSeqState_pool (s : State) (x : SeqState) : (s.setSeqState x).pool = s.pool := rfl
@[simp] theorem State.setSeqState_arbiter (s : State) (x : SeqState) : (s.setSeqState x).arbiter = s.arbiter := rfl
@[simp] theorem State.setSeqState_regions (s : State) (x : SeqState) : (s.setSeqState x).regions = s.regions := rfl
@[simp] theorem State.setSeqState_hold (s : State) (x : SeqState) : (s.setSeqState x).hold = s.hold := rfl
@[simp] theorem State.setSeqState_profile (s : State) (x : SeqState) : (s.setSeqState x).profile = s.profile := rfl
@[simp] theorem State.setSeqState_counters (s : State) (x : SeqState) : (s.setSeqState x).counters = s.counters := rfl
@[simp] theorem State.setSeqState_powerOnReset (s : State) (x : SeqState) : (s.setSeqState x).powerOnReset = s.powerOnReset := rfl
@[simp] theorem State.setSeqState_ticks (s : State) (x : SeqState) : (s.setSeqState x).ticks = s.ticks := rfl
@[simp] theorem State.setSeqState_pending (s : State) (x : SeqState) : (s.setSeqState x).pending = s.pending := rfl
@[simp] theorem State.setSeqState_port (s : State) (x : SeqState) (q : Port) : (s.setSeqState x).port q = s.port q := rfl
@[simp] theorem State.setSeqState_queue (s : State) (x : SeqState) (q : Port) : (s.setSeqState x).queue q = s.queue q := rfl
@[simp] theorem State.setSeqState_aperture (s : State) (x : SeqState) (q : Port) : (s.setSeqState x).aperture q = s.aperture q := rfl
@[simp] theorem State.setSeqState_events (s : State) (x : SeqState) (q : Port) : (s.setSeqState x).events q = s.events q := rfl
@[simp] theorem State.setSeqState_holder (s : State) (x : SeqState) (c : Fin 16) : (s.setSeqState x).holder c = s.holder c := rfl
@[simp] theorem State.setSeqState_holdOf (s : State) (x : SeqState) (q : Port) : (s.setSeqState x).holdOf q = s.holdOf q := rfl
@[simp] theorem State.setSeqState_prof (s : State) (x : SeqState) : (s.setSeqState x).prof = s.prof := rfl
@[simp] theorem State.setSeqState_capacity (s : State) (x : SeqState) : (s.setSeqState x).capacity = s.capacity := rfl

@[simp] theorem State.modActive_ports (s : State) (f : OpRecord → OpRecord) : (s.modActive f).ports = s.ports := rfl
@[simp] theorem State.modActive_pool (s : State) (f : OpRecord → OpRecord) : (s.modActive f).pool = s.pool := rfl
@[simp] theorem State.modActive_arbiter (s : State) (f : OpRecord → OpRecord) : (s.modActive f).arbiter = s.arbiter := rfl
@[simp] theorem State.modActive_regions (s : State) (f : OpRecord → OpRecord) : (s.modActive f).regions = s.regions := rfl
@[simp] theorem State.modActive_hold (s : State) (f : OpRecord → OpRecord) : (s.modActive f).hold = s.hold := rfl
@[simp] theorem State.modActive_profile (s : State) (f : OpRecord → OpRecord) : (s.modActive f).profile = s.profile := rfl
@[simp] theorem State.modActive_counters (s : State) (f : OpRecord → OpRecord) : (s.modActive f).counters = s.counters := rfl
@[simp] theorem State.modActive_powerOnReset (s : State) (f : OpRecord → OpRecord) : (s.modActive f).powerOnReset = s.powerOnReset := rfl
@[simp] theorem State.modActive_ticks (s : State) (f : OpRecord → OpRecord) : (s.modActive f).ticks = s.ticks := rfl
@[simp] theorem State.modActive_pending (s : State) (f : OpRecord → OpRecord) : (s.modActive f).pending = s.pending := rfl
@[simp] theorem State.modActive_port (s : State) (f : OpRecord → OpRecord) (q : Port) : (s.modActive f).port q = s.port q := rfl
@[simp] theorem State.modActive_queue (s : State) (f : OpRecord → OpRecord) (q : Port) : (s.modActive f).queue q = s.queue q := rfl
@[simp] theorem State.modActive_aperture (s : State) (f : OpRecord → OpRecord) (q : Port) : (s.modActive f).aperture q = s.aperture q := rfl
@[simp] theorem State.modActive_events (s : State) (f : OpRecord → OpRecord) (q : Port) : (s.modActive f).events q = s.events q := rfl
@[simp] theorem State.modActive_holder (s : State) (f : OpRecord → OpRecord) (c : Fin 16) : (s.modActive f).holder c = s.holder c := rfl
@[simp] theorem State.modActive_holdOf (s : State) (f : OpRecord → OpRecord) (q : Port) : (s.modActive f).holdOf q = s.holdOf q := rfl
@[simp] theorem State.modActive_prof (s : State) (f : OpRecord → OpRecord) : (s.modActive f).prof = s.prof := rfl
@[simp] theorem State.modActive_capacity (s : State) (f : OpRecord → OpRecord) : (s.modActive f).capacity = s.capacity := rfl

@[simp] theorem State.callLine_ports (s : State) (t : Transaction) : (s.callLine t).ports = s.ports := rfl
@[simp] theorem State.callLine_pool (s : State) (t : Transaction) : (s.callLine t).pool = s.pool := rfl
@[simp] theorem State.callLine_arbiter (s : State) (t : Transaction) : (s.callLine t).arbiter = s.arbiter := rfl
@[simp] theorem State.callLine_regions (s : State) (t : Transaction) : (s.callLine t).regions = s.regions := rfl
@[simp] theorem State.callLine_hold (s : State) (t : Transaction) : (s.callLine t).hold = s.hold := rfl
@[simp] theorem State.callLine_profile (s : State) (t : Transaction) : (s.callLine t).profile = s.profile := rfl
@[simp] theorem State.callLine_counters (s : State) (t : Transaction) : (s.callLine t).counters = s.counters := rfl
@[simp] theorem State.callLine_powerOnReset (s : State) (t : Transaction) : (s.callLine t).powerOnReset = s.powerOnReset := rfl
@[simp] theorem State.callLine_ticks (s : State) (t : Transaction) : (s.callLine t).ticks = s.ticks := rfl
@[simp] theorem State.callLine_pending (s : State) (t : Transaction) : (s.callLine t).pending = s.pending := rfl
@[simp] theorem State.callLine_port (s : State) (t : Transaction) (q : Port) : (s.callLine t).port q = s.port q := rfl
@[simp] theorem State.callLine_queue (s : State) (t : Transaction) (q : Port) : (s.callLine t).queue q = s.queue q := rfl
@[simp] theorem State.callLine_aperture (s : State) (t : Transaction) (q : Port) : (s.callLine t).aperture q = s.aperture q := rfl
@[simp] theorem State.callLine_events (s : State) (t : Transaction) (q : Port) : (s.callLine t).events q = s.events q := rfl
@[simp] theorem State.callLine_holder (s : State) (t : Transaction) (c : Fin 16) : (s.callLine t).holder c = s.holder c := rfl
@[simp] theorem State.callLine_holdOf (s : State) (t : Transaction) (q : Port) : (s.callLine t).holdOf q = s.holdOf q := rfl
@[simp] theorem State.callLine_prof (s : State) (t : Transaction) : (s.callLine t).prof = s.prof := rfl
@[simp] theorem State.callLine_capacity (s : State) (t : Transaction) : (s.callLine t).capacity = s.capacity := rfl

@[simp] theorem State.removeActive_ports (s : State) : (s.removeActive).ports = s.ports := rfl
@[simp] theorem State.removeActive_pool (s : State) : (s.removeActive).pool = s.pool := rfl
@[simp] theorem State.removeActive_arbiter (s : State) : (s.removeActive).arbiter = s.arbiter := rfl
@[simp] theorem State.removeActive_regions (s : State) : (s.removeActive).regions = s.regions := rfl
@[simp] theorem State.removeActive_hold (s : State) : (s.removeActive).hold = s.hold := rfl
@[simp] theorem State.removeActive_profile (s : State) : (s.removeActive).profile = s.profile := rfl
@[simp] theorem State.removeActive_counters (s : State) : (s.removeActive).counters = s.counters := rfl
@[simp] theorem State.removeActive_powerOnReset (s : State) : (s.removeActive).powerOnReset = s.powerOnReset := rfl
@[simp] theorem State.removeActive_ticks (s : State) : (s.removeActive).ticks = s.ticks := rfl
@[simp] theorem State.removeActive_pending (s : State) : (s.removeActive).pending = s.pending := rfl
@[simp] theorem State.removeActive_port (s : State) (q : Port) : (s.removeActive).port q = s.port q := rfl
@[simp] theorem State.removeActive_queue (s : State) (q : Port) : (s.removeActive).queue q = s.queue q := rfl
@[simp] theorem State.removeActive_aperture (s : State) (q : Port) : (s.removeActive).aperture q = s.aperture q := rfl
@[simp] theorem State.removeActive_events (s : State) (q : Port) : (s.removeActive).events q = s.events q := rfl
@[simp] theorem State.removeActive_holder (s : State) (c : Fin 16) : (s.removeActive).holder c = s.holder c := rfl
@[simp] theorem State.removeActive_holdOf (s : State) (q : Port) : (s.removeActive).holdOf q = s.holdOf q := rfl
@[simp] theorem State.removeActive_prof (s : State) : (s.removeActive).prof = s.prof := rfl
@[simp] theorem State.removeActive_capacity (s : State) : (s.removeActive).capacity = s.capacity := rfl

@[simp] theorem State.startPollTimer_ports (s : State) : (s.startPollTimer).ports = s.ports := rfl
@[simp] theorem State.startPollTimer_pool (s : State) : (s.startPollTimer).pool = s.pool := rfl
@[simp] theorem State.startPollTimer_arbiter (s : State) : (s.startPollTimer).arbiter = s.arbiter := rfl
@[simp] theorem State.startPollTimer_regions (s : State) : (s.startPollTimer).regions = s.regions := rfl
@[simp] theorem State.startPollTimer_hold (s : State) : (s.startPollTimer).hold = s.hold := rfl
@[simp] theorem State.startPollTimer_profile (s : State) : (s.startPollTimer).profile = s.profile := rfl
@[simp] theorem State.startPollTimer_counters (s : State) : (s.startPollTimer).counters = s.counters := rfl
@[simp] theorem State.startPollTimer_powerOnReset (s : State) : (s.startPollTimer).powerOnReset = s.powerOnReset := rfl
@[simp] theorem State.startPollTimer_ticks (s : State) : (s.startPollTimer).ticks = s.ticks := rfl
@[simp] theorem State.startPollTimer_pending (s : State) : (s.startPollTimer).pending = s.pending := rfl
@[simp] theorem State.startPollTimer_port (s : State) (q : Port) : (s.startPollTimer).port q = s.port q := rfl
@[simp] theorem State.startPollTimer_queue (s : State) (q : Port) : (s.startPollTimer).queue q = s.queue q := rfl
@[simp] theorem State.startPollTimer_aperture (s : State) (q : Port) : (s.startPollTimer).aperture q = s.aperture q := rfl
@[simp] theorem State.startPollTimer_events (s : State) (q : Port) : (s.startPollTimer).events q = s.events q := rfl
@[simp] theorem State.startPollTimer_holder (s : State) (c : Fin 16) : (s.startPollTimer).holder c = s.holder c := rfl
@[simp] theorem State.startPollTimer_holdOf (s : State) (q : Port) : (s.startPollTimer).holdOf q = s.holdOf q := rfl
@[simp] theorem State.startPollTimer_prof (s : State) : (s.startPollTimer).prof = s.prof := rfl
@[simp] theorem State.startPollTimer_capacity (s : State) : (s.startPollTimer).capacity = s.capacity := rfl

@[simp] theorem State.startLatencyTimer_ports (s : State) : (s.startLatencyTimer).ports = s.ports := rfl
@[simp] theorem State.startLatencyTimer_pool (s : State) : (s.startLatencyTimer).pool = s.pool := rfl
@[simp] theorem State.startLatencyTimer_arbiter (s : State) : (s.startLatencyTimer).arbiter = s.arbiter := rfl
@[simp] theorem State.startLatencyTimer_regions (s : State) : (s.startLatencyTimer).regions = s.regions := rfl
@[simp] theorem State.startLatencyTimer_hold (s : State) : (s.startLatencyTimer).hold = s.hold := rfl
@[simp] theorem State.startLatencyTimer_profile (s : State) : (s.startLatencyTimer).profile = s.profile := rfl
@[simp] theorem State.startLatencyTimer_counters (s : State) : (s.startLatencyTimer).counters = s.counters := rfl
@[simp] theorem State.startLatencyTimer_powerOnReset (s : State) : (s.startLatencyTimer).powerOnReset = s.powerOnReset := rfl
@[simp] theorem State.startLatencyTimer_ticks (s : State) : (s.startLatencyTimer).ticks = s.ticks := rfl
@[simp] theorem State.startLatencyTimer_pending (s : State) : (s.startLatencyTimer).pending = s.pending := rfl
@[simp] theorem State.startLatencyTimer_port (s : State) (q : Port) : (s.startLatencyTimer).port q = s.port q := rfl
@[simp] theorem State.startLatencyTimer_queue (s : State) (q : Port) : (s.startLatencyTimer).queue q = s.queue q := rfl
@[simp] theorem State.startLatencyTimer_aperture (s : State) (q : Port) : (s.startLatencyTimer).aperture q = s.aperture q := rfl
@[simp] theorem State.startLatencyTimer_events (s : State) (q : Port) : (s.startLatencyTimer).events q = s.events q := rfl
@[simp] theorem State.startLatencyTimer_holder (s : State) (c : Fin 16) : (s.startLatencyTimer).holder c = s.holder c := rfl
@[simp] theorem State.startLatencyTimer_holdOf (s : State) (q : Port) : (s.startLatencyTimer).holdOf q = s.holdOf q := rfl
@[simp] theorem State.startLatencyTimer_prof (s : State) : (s.startLatencyTimer).prof = s.prof := rfl
@[simp] theorem State.startLatencyTimer_capacity (s : State) : (s.startLatencyTimer).capacity = s.capacity := rfl

@[simp] theorem State.setSeqState_seq (s : State) (q : SeqState) : (s.setSeqState q).seq = { s.seq with state := q } := rfl
@[simp] theorem State.modActive_seq (s : State) (f : OpRecord → OpRecord) :
    (s.modActive f).seq = { s.seq with active := s.seq.active.map f } := rfl
@[simp] theorem State.callLine_seq (s : State) (t : Transaction) : (s.callLine t).seq = { s.seq with line := .called t } := rfl
@[simp] theorem State.removeActive_seq (s : State) : s.removeActive.seq = { s.seq with active := none } := rfl
@[simp] theorem State.startPollTimer_seq (s : State) :
    s.startPollTimer.seq = { s.seq with pollTimer := startTimer s.prof.pollMicros } := rfl
@[simp] theorem State.startLatencyTimer_seq (s : State) :
    s.startLatencyTimer.seq = { s.seq with latencyTimer := startTimer s.prof.latencyMicros } := rfl

/-! ### The passing of time -/

@[simp] theorem elapseTimer_isSome (d : Nat) (t : Timer) : (elapseTimer d t).isSome = t.isSome := by
  cases t <;> rfl
@[simp] theorem elapseTimer_eq_none (d : Nat) (t : Timer) : elapseTimer d t = none ↔ t = none := by
  cases t <;> simp [elapseTimer]
@[simp] theorem Sequencer.elapse_state (d : Nat) (q : Sequencer) : (q.elapse d).state = q.state := rfl
@[simp] theorem Sequencer.elapse_line (d : Nat) (q : Sequencer) : (q.elapse d).line = q.line.elapse d := rfl
@[simp] theorem Sequencer.elapse_pollTimer (d : Nat) (q : Sequencer) : (q.elapse d).pollTimer = elapseTimer d q.pollTimer := rfl
@[simp] theorem Sequencer.elapse_latencyTimer (d : Nat) (q : Sequencer) :
    (q.elapse d).latencyTimer = elapseTimer d q.latencyTimer := rfl
@[simp] theorem Sequencer.elapse_dwellTimer (d : Nat) (q : Sequencer) :
    (q.elapse d).dwellTimer = elapseTimer d q.dwellTimer := rfl
@[simp] theorem Sequencer.elapse_recoveryTimer (d : Nat) (q : Sequencer) :
    (q.elapse d).recoveryTimer = elapseTimer d q.recoveryTimer := rfl
theorem Sequencer.elapse_suspended (d : Nat) (q : Sequencer) :
    (q.elapse d).suspended = q.suspended.map fun x => { x with dwell := x.dwell + d } := rfl
@[simp] theorem Sequencer.elapse_suspended_isSome (d : Nat) (q : Sequencer) :
    (q.elapse d).suspended.isSome = q.suspended.isSome := by simp [Sequencer.elapse]
theorem Sequencer.elapse_active (d : Nat) (q : Sequencer) :
    (q.elapse d).active = if q.state.accumulates then q.active.map (OpRecord.elapse d) else q.active := rfl
@[simp] theorem Line.carried_elapse (d : Nat) (l : Line) : (l.elapse d).carried = l.carried := by cases l <;> rfl
@[simp] theorem Line.elapse_eq_idle (d : Nat) (l : Line) : l.elapse d = .idle ↔ l = .idle := by cases l <;> simp [Line.elapse]

end Sys2Proof.Machine
end

