-- ==== Sys2Proof/Laws/Flags.lean ====
section
/-! SUPPORT. What the notices of the event units do, and that they do nothing else. -/

namespace Sys2Proof.Machine


/-- A notice of port `p` changes that port's event unit and nothing else, and nothing while the port is in reset (R173). -/
theorem State.notify_port (s : State) (p q : Port) (f : EventUnit → EventUnit) :
    (s.notify p f).port q
      = if q = p ∧ (s.port p).inReset = false then { s.port p with events := f (s.port p).events } else s.port q := by
  unfold State.notify
  cases h : (s.port p).inReset <;> simp [State.port_modPort_eq]

theorem State.notify_events (s : State) (p q : Port) (f : EventUnit → EventUnit) :
    (s.notify p f).events q = if q = p ∧ (s.port p).inReset = false then f (s.events p) else s.events q := by
  unfold State.events; rw [State.notify_port]; split <;> rfl

@[simp] theorem State.notify_frame (s : State) (p : Port) (f : EventUnit → EventUnit) :
    (s.notify p f).pool = s.pool ∧ (s.notify p f).seq = s.seq ∧ (s.notify p f).arbiter = s.arbiter ∧
      (s.notify p f).regions = s.regions ∧ (s.notify p f).hold = s.hold ∧ (s.notify p f).profile = s.profile ∧
      (s.notify p f).counters = s.counters ∧ (s.notify p f).powerOnReset = s.powerOnReset ∧
      (s.notify p f).ticks = s.ticks ∧ (s.notify p f).pending = s.pending ∧ (∀ b, (s.notify p f).holder b = s.holder b) ∧
      (∀ q, (s.notify p f).holdOf q = s.holdOf q) ∧ (s.notify p f).prof = s.prof ∧ (s.notify p f).capacity = s.capacity ∧
      (∀ q, (s.notify p f).queue q = s.queue q) ∧ (∀ q, (s.notify p f).aperture q = s.aperture q) ∧
      (∀ q, ((s.notify p f).port q).inReset = (s.port q).inReset) ∧
      (∀ q, ((s.notify p f).port q).claimRefused = (s.port q).claimRefused) ∧
      (∀ q, ((s.notify p f).port q).bufSel = (s.port q).bufSel) ∧
      (∀ q, ((s.notify p f).port q).result = (s.port q).result) := by
  have h (q : Port) := s.notify_port p q f
  refine ⟨?_, ?_, ?_, ?_, ?_, ?_, ?_, ?_, ?_, ?_, ?_, ?_, ?_, ?_, ?_, ?_, ?_, ?_, ?_, ?_⟩
  all_goals first
    | (unfold State.notify; split <;> rfl)
    | (intro q; unfold State.notify; split <;> rfl)
    | (intro q; have := h q; simp only [State.queue, State.aperture, this]; split <;> simp_all)

@[simp] theorem State.raise_frame (s : State) (p : Port) (f : Flag) :
    (s.raise p f).pool = s.pool ∧ (s.raise p f).seq = s.seq ∧ (s.raise p f).arbiter = s.arbiter ∧
      (s.raise p f).regions = s.regions ∧ (s.raise p f).hold = s.hold ∧ (s.raise p f).profile = s.profile ∧
      (s.raise p f).counters = s.counters ∧ (s.raise p f).powerOnReset = s.powerOnReset ∧ (s.raise p f).ticks = s.ticks ∧
      (s.raise p f).pending = s.pending ∧ (∀ b, (s.raise p f).holder b = s.holder b) ∧
      (∀ q, (s.raise p f).holdOf q = s.holdOf q) ∧ (s.raise p f).prof = s.prof ∧ (s.raise p f).capacity = s.capacity ∧
      (∀ q, (s.raise p f).queue q = s.queue q) ∧ (∀ q, (s.raise p f).aperture q = s.aperture q) ∧
      (∀ q, ((s.raise p f).port q).inReset = (s.port q).inReset) ∧
      (∀ q, ((s.raise p f).port q).claimRefused = (s.port q).claimRefused) ∧
      (∀ q, ((s.raise p f).port q).bufSel = (s.port q).bufSel) ∧ (∀ q, ((s.raise p f).port q).result = (s.port q).result) := by
  simp [State.raise]

@[simp] theorem State.apertureCause_frame (s : State) (p : Port) (c : ApCause) :
    (s.apertureCause p c).pool = s.pool ∧ (s.apertureCause p c).seq = s.seq ∧ (s.apertureCause p c).arbiter = s.arbiter ∧
      (s.apertureCause p c).regions = s.regions ∧ (s.apertureCause p c).hold = s.hold ∧
      (s.apertureCause p c).profile = s.profile ∧ (s.apertureCause p c).counters = s.counters ∧
      (s.apertureCause p c).powerOnReset = s.powerOnReset ∧ (s.apertureCause p c).ticks = s.ticks ∧
      (s.apertureCause p c).pending = s.pending ∧ (∀ b, (s.apertureCause p c).holder b = s.holder b) ∧
      (∀ q, (s.apertureCause p c).holdOf q = s.holdOf q) ∧ (s.apertureCause p c).prof = s.prof ∧
      (s.apertureCause p c).capacity = s.capacity ∧ (∀ q, (s.apertureCause p c).queue q = s.queue q) ∧
      (∀ q, (s.apertureCause p c).aperture q = s.aperture q) ∧
      (∀ q, ((s.apertureCause p c).port q).inReset = (s.port q).inReset) ∧
      (∀ q, ((s.apertureCause p c).port q).claimRefused = (s.port q).claimRefused) ∧
      (∀ q, ((s.apertureCause p c).port q).bufSel = (s.port q).bufSel) ∧
      (∀ q, ((s.apertureCause p c).port q).result = (s.port q).result) := by
  simp [State.apertureCause]

@[simp] theorem State.holdCause_frame (s : State) (p : Port) (c : HoldCause) :
    (s.holdCause p c).pool = s.pool ∧ (s.holdCause p c).seq = s.seq ∧ (s.holdCause p c).arbiter = s.arbiter ∧
      (s.holdCause p c).regions = s.regions ∧ (s.holdCause p c).hold = s.hold ∧ (s.holdCause p c).profile = s.profile ∧
      (s.holdCause p c).counters = s.counters ∧ (s.holdCause p c).powerOnReset = s.powerOnReset ∧
      (s.holdCause p c).ticks = s.ticks ∧ (s.holdCause p c).pending = s.pending ∧
      (∀ b, (s.holdCause p c).holder b = s.holder b) ∧ (∀ q, (s.holdCause p c).holdOf q = s.holdOf q) ∧
      (s.holdCause p c).prof = s.prof ∧ (s.holdCause p c).capacity = s.capacity ∧
      (∀ q, (s.holdCause p c).queue q = s.queue q) ∧ (∀ q, (s.holdCause p c).aperture q = s.aperture q) ∧
      (∀ q, ((s.holdCause p c).port q).inReset = (s.port q).inReset) ∧
      (∀ q, ((s.holdCause p c).port q).claimRefused = (s.port q).claimRefused) ∧
      (∀ q, ((s.holdCause p c).port q).bufSel = (s.port q).bufSel) ∧
      (∀ q, ((s.holdCause p c).port q).result = (s.port q).result) := by
  simp [State.holdCause]

@[simp] theorem State.countError_frame (s : State) (p : Port) :
    (s.countError p).pool = s.pool ∧ (s.countError p).seq = s.seq ∧ (s.countError p).arbiter = s.arbiter ∧
      (s.countError p).regions = s.regions ∧ (s.countError p).hold = s.hold ∧ (s.countError p).profile = s.profile ∧
      (s.countError p).counters = s.counters ∧ (s.countError p).powerOnReset = s.powerOnReset ∧
      (s.countError p).ticks = s.ticks ∧ (s.countError p).pending = s.pending ∧
      (∀ b, (s.countError p).holder b = s.holder b) ∧ (∀ q, (s.countError p).holdOf q = s.holdOf q) ∧
      (s.countError p).prof = s.prof ∧ (s.countError p).capacity = s.capacity ∧
      (∀ q, (s.countError p).queue q = s.queue q) ∧ (∀ q, (s.countError p).aperture q = s.aperture q) ∧
      (∀ q, ((s.countError p).port q).inReset = (s.port q).inReset) ∧
      (∀ q, ((s.countError p).port q).claimRefused = (s.port q).claimRefused) ∧
      (∀ q, ((s.countError p).port q).bufSel = (s.port q).bufSel) ∧
      (∀ q, ((s.countError p).port q).result = (s.port q).result) := by
  simp [State.countError]

@[simp] theorem State.countDenial_frame (s : State) (p : Port) :
    (s.countDenial p).pool = s.pool ∧ (s.countDenial p).seq = s.seq ∧ (s.countDenial p).arbiter = s.arbiter ∧
      (s.countDenial p).regions = s.regions ∧ (s.countDenial p).hold = s.hold ∧ (s.countDenial p).profile = s.profile ∧
      (s.countDenial p).counters = s.counters ∧ (s.countDenial p).powerOnReset = s.powerOnReset ∧
      (s.countDenial p).ticks = s.ticks ∧ (s.countDenial p).pending = s.pending ∧
      (∀ b, (s.countDenial p).holder b = s.holder b) ∧ (∀ q, (s.countDenial p).holdOf q = s.holdOf q) ∧
      (s.countDenial p).prof = s.prof ∧ (s.countDenial p).capacity = s.capacity ∧
      (∀ q, (s.countDenial p).queue q = s.queue q) ∧ (∀ q, (s.countDenial p).aperture q = s.aperture q) ∧
      (∀ q, ((s.countDenial p).port q).inReset = (s.port q).inReset) ∧
      (∀ q, ((s.countDenial p).port q).claimRefused = (s.port q).claimRefused) ∧
      (∀ q, ((s.countDenial p).port q).bufSel = (s.port q).bufSel) ∧
      (∀ q, ((s.countDenial p).port q).result = (s.port q).result) := by
  simp [State.countDenial]

@[simp] theorem State.raiseBoth_frame (s : State) (f : Flag) :
    (s.raiseBoth f).pool = s.pool ∧ (s.raiseBoth f).seq = s.seq ∧ (s.raiseBoth f).arbiter = s.arbiter ∧
      (s.raiseBoth f).regions = s.regions ∧ (s.raiseBoth f).hold = s.hold ∧ (s.raiseBoth f).profile = s.profile ∧
      (s.raiseBoth f).counters = s.counters ∧ (s.raiseBoth f).powerOnReset = s.powerOnReset ∧
      (s.raiseBoth f).ticks = s.ticks ∧ (s.raiseBoth f).pending = s.pending ∧
      (∀ b, (s.raiseBoth f).holder b = s.holder b) ∧ (∀ q, (s.raiseBoth f).holdOf q = s.holdOf q) ∧
      (s.raiseBoth f).prof = s.prof ∧ (s.raiseBoth f).capacity = s.capacity ∧
      (∀ q, (s.raiseBoth f).queue q = s.queue q) ∧ (∀ q, (s.raiseBoth f).aperture q = s.aperture q) ∧
      (∀ q, ((s.raiseBoth f).port q).inReset = (s.port q).inReset) ∧
      (∀ q, ((s.raiseBoth f).port q).claimRefused = (s.port q).claimRefused) ∧
      (∀ q, ((s.raiseBoth f).port q).bufSel = (s.port q).bufSel) ∧
      (∀ q, ((s.raiseBoth f).port q).result = (s.port q).result) := by
  simp [State.raiseBoth]

@[simp] theorem State.recoveryCause_frame (s : State) (c : RecCause) :
    (s.recoveryCause c).pool = s.pool ∧ (s.recoveryCause c).seq = s.seq ∧ (s.recoveryCause c).arbiter = s.arbiter ∧
      (s.recoveryCause c).regions = s.regions ∧ (s.recoveryCause c).hold = s.hold ∧
      (s.recoveryCause c).profile = s.profile ∧ (s.recoveryCause c).counters = s.counters ∧
      (s.recoveryCause c).powerOnReset = s.powerOnReset ∧ (s.recoveryCause c).ticks = s.ticks ∧
      (s.recoveryCause c).pending = s.pending ∧ (∀ b, (s.recoveryCause c).holder b = s.holder b) ∧
      (∀ q, (s.recoveryCause c).holdOf q = s.holdOf q) ∧ (s.recoveryCause c).prof = s.prof ∧
      (s.recoveryCause c).capacity = s.capacity ∧ (∀ q, (s.recoveryCause c).queue q = s.queue q) ∧
      (∀ q, (s.recoveryCause c).aperture q = s.aperture q) ∧
      (∀ q, ((s.recoveryCause c).port q).inReset = (s.port q).inReset) ∧
      (∀ q, ((s.recoveryCause c).port q).claimRefused = (s.port q).claimRefused) ∧
      (∀ q, ((s.recoveryCause c).port q).bufSel = (s.port q).bufSel) ∧
      (∀ q, ((s.recoveryCause c).port q).result = (s.port q).result) := by
  simp [State.recoveryCause]

@[simp] theorem State.countCompletions_frame (s : State) (p : Port) (k : Nat) :
    (s.countCompletions p k).pool = s.pool ∧ (s.countCompletions p k).seq = s.seq ∧
      (s.countCompletions p k).arbiter = s.arbiter ∧ (s.countCompletions p k).regions = s.regions ∧
      (s.countCompletions p k).hold = s.hold ∧ (s.countCompletions p k).profile = s.profile ∧
      (s.countCompletions p k).counters = s.counters ∧ (s.countCompletions p k).powerOnReset = s.powerOnReset ∧
      (s.countCompletions p k).ticks = s.ticks ∧ (s.countCompletions p k).pending = s.pending ∧
      (∀ b, (s.countCompletions p k).holder b = s.holder b) ∧ (∀ q, (s.countCompletions p k).holdOf q = s.holdOf q) ∧
      (s.countCompletions p k).prof = s.prof ∧ (s.countCompletions p k).capacity = s.capacity ∧
      (∀ q, (s.countCompletions p k).queue q = s.queue q) ∧ (∀ q, (s.countCompletions p k).aperture q = s.aperture q) ∧
      (∀ q, ((s.countCompletions p k).port q).inReset = (s.port q).inReset) ∧
      (∀ q, ((s.countCompletions p k).port q).claimRefused = (s.port q).claimRefused) ∧
      (∀ q, ((s.countCompletions p k).port q).bufSel = (s.port q).bufSel) ∧
      (∀ q, ((s.countCompletions p k).port q).result = (s.port q).result) := by
  unfold State.countCompletions; split <;> simp

@[simp] theorem State.noticeFreed_frame (s : State) (p : Port) :
    (s.noticeFreed p).pool = s.pool ∧ (s.noticeFreed p).seq = s.seq ∧ (s.noticeFreed p).arbiter = s.arbiter ∧
      (s.noticeFreed p).regions = s.regions ∧ (s.noticeFreed p).hold = s.hold ∧ (s.noticeFreed p).profile = s.profile ∧
      (s.noticeFreed p).counters = s.counters ∧ (s.noticeFreed p).powerOnReset = s.powerOnReset ∧
      (s.noticeFreed p).ticks = s.ticks ∧ (s.noticeFreed p).pending = s.pending ∧
      (∀ b, (s.noticeFreed p).holder b = s.holder b) ∧ (∀ q, (s.noticeFreed p).holdOf q = s.holdOf q) ∧
      (s.noticeFreed p).prof = s.prof ∧ (s.noticeFreed p).capacity = s.capacity ∧
      (∀ q, (s.noticeFreed p).queue q = s.queue q) ∧ (∀ q, (s.noticeFreed p).aperture q = s.aperture q) ∧
      (∀ q, ((s.noticeFreed p).port q).inReset = (s.port q).inReset) ∧
      (∀ q, ((s.noticeFreed p).port q).bufSel = (s.port q).bufSel) ∧
      (∀ q, ((s.noticeFreed p).port q).result = (s.port q).result) := by
  unfold State.noticeFreed
  split
  · simp only [State.raise_frame, State.modPort_pool, State.modPort_seq, State.modPort_arbiter, State.modPort_regions,
      State.modPort_hold, State.modPort_profile, State.modPort_counters, State.modPort_powerOnReset, State.modPort_ticks,
      State.modPort_pending, State.modPort_holder, State.modPort_holdOf, State.modPort_prof, State.modPort_capacity, true_and,
      implies_true]
    refine ⟨?_, ?_, ?_, ?_, ?_⟩
    all_goals
      intro q
      rcases Port.eq_or_peer p q with rfl | rfl <;> simp [State.queue, State.aperture]
  · simp

@[simp] theorem State.buffersFreed_frame (s : State) :
    (s.buffersFreed).pool = s.pool ∧ (s.buffersFreed).seq = s.seq ∧ (s.buffersFreed).arbiter = s.arbiter ∧
      (s.buffersFreed).regions = s.regions ∧ (s.buffersFreed).hold = s.hold ∧ (s.buffersFreed).profile = s.profile ∧
      (s.buffersFreed).counters = s.counters ∧ (s.buffersFreed).powerOnReset = s.powerOnReset ∧
      (s.buffersFreed).ticks = s.ticks ∧ (s.buffersFreed).pending = s.pending ∧
      (∀ b, (s.buffersFreed).holder b = s.holder b) ∧ (∀ q, (s.buffersFreed).holdOf q = s.holdOf q) ∧
      (s.buffersFreed).prof = s.prof ∧ (s.buffersFreed).capacity = s.capacity ∧
      (∀ q, (s.buffersFreed).queue q = s.queue q) ∧ (∀ q, (s.buffersFreed).aperture q = s.aperture q) ∧
      (∀ q, ((s.buffersFreed).port q).inReset = (s.port q).inReset) ∧
      (∀ q, ((s.buffersFreed).port q).bufSel = (s.port q).bufSel) ∧
      (∀ q, ((s.buffersFreed).port q).result = (s.port q).result) := by
  simp [State.buffersFreed]

@[simp] theorem State.freeBuffer_frame (s : State) (b : Fin 16) :
    (s.freeBuffer b).seq = s.seq ∧ (s.freeBuffer b).arbiter = s.arbiter ∧ (s.freeBuffer b).regions = s.regions ∧
      (s.freeBuffer b).hold = s.hold ∧ (s.freeBuffer b).profile = s.profile ∧ (s.freeBuffer b).counters = s.counters ∧
      (s.freeBuffer b).powerOnReset = s.powerOnReset ∧ (s.freeBuffer b).ticks = s.ticks ∧
      (s.freeBuffer b).pending = s.pending ∧ (∀ q, (s.freeBuffer b).holdOf q = s.holdOf q) ∧
      (s.freeBuffer b).prof = s.prof ∧ (s.freeBuffer b).capacity = s.capacity ∧
      (∀ q, (s.freeBuffer b).queue q = s.queue q) ∧ (∀ q, (s.freeBuffer b).aperture q = s.aperture q) ∧
      (∀ q, ((s.freeBuffer b).port q).inReset = (s.port q).inReset) ∧
      (∀ q, ((s.freeBuffer b).port q).bufSel = (s.port q).bufSel) ∧
      (∀ q, ((s.freeBuffer b).port q).result = (s.port q).result) := by
  simp [State.freeBuffer]

@[simp] theorem State.freeBuffer_pool (s : State) (b : Fin 16) : (s.freeBuffer b).pool = (s.setHolder b .free).pool := by
  simp [State.freeBuffer]
theorem State.freeBuffer_holder (s : State) (b c : Fin 16) :
    (s.freeBuffer b).holder c = if c = b then .free else s.holder c := by
  simp [State.freeBuffer, State.setHolder_holder_eq]

end Sys2Proof.Machine
end

