-- ==== Sys2Proof/Laws/Completion.lean ====
section
/-! SUPPORT. What a completion, a hold grant and a fill arrival do, and that they do nothing else. -/

namespace Sys2Proof.Machine

@[simp] theorem State.returnBuffer_frame (s : State) (p : Port) (op : SlotOp) :
    (s.returnBuffer p op).ports = s.ports ∧ (s.returnBuffer p op).seq = s.seq ∧
      (s.returnBuffer p op).arbiter = s.arbiter ∧ (s.returnBuffer p op).regions = s.regions ∧
      (s.returnBuffer p op).hold = s.hold ∧ (s.returnBuffer p op).profile = s.profile ∧
      (s.returnBuffer p op).counters = s.counters ∧ (s.returnBuffer p op).powerOnReset = s.powerOnReset ∧
      (s.returnBuffer p op).ticks = s.ticks ∧ (s.returnBuffer p op).pending = s.pending ∧
      (∀ q, (s.returnBuffer p op).holdOf q = s.holdOf q) ∧ (s.returnBuffer p op).prof = s.prof ∧
      (s.returnBuffer p op).capacity = s.capacity ∧ (∀ q, (s.returnBuffer p op).port q = s.port q) ∧
      (∀ q, (s.returnBuffer p op).queue q = s.queue q) ∧ (∀ q, (s.returnBuffer p op).aperture q = s.aperture q) ∧
      (∀ q, (s.returnBuffer p op).events q = s.events q) := by
  unfold State.returnBuffer; split <;> simp

theorem State.returnBuffer_holder (s : State) (p : Port) (op : SlotOp) (c : Fin 16) :
    (s.returnBuffer p op).holder c = if op.buffer = some c then .port p else s.holder c := by
  unfold State.returnBuffer
  split
  · next b h => simp [State.setHolder_holder_eq, h, eq_comm]
  · next h => simp [h]
@[simp] theorem State.returnBuffer_bytes (s : State) (p : Port) (op : SlotOp) :
    (s.returnBuffer p op).pool.bytes = s.pool.bytes := by unfold State.returnBuffer; split <;> simp

/-- The queue state that R17 gives after a slot became DONE. -/
def QueueState.afterCompletion (q : QueueState) (haltsOnThis : Bool) : QueueState :=
  match q with
  | .running => if haltsOnThis then .halted else .running
  | .stopping => .stopped
  | .stopped => .stopped
  | .halted => .halted

theorem State.queueAfterCompletion_queue (s : State) (p q : Port) (st : Status) :
    (s.queueAfterCompletion p st).queue q
      = if q = p then
          { s.queue p with state := (s.queue p).state.afterCompletion (st.isError && (s.queue p).haltOnError) }
        else s.queue q := by
  unfold State.queueAfterCompletion QueueState.afterCompletion
  rcases Port.eq_or_peer p q with rfl | rfl
  · rw [if_pos rfl]
    split
    · next h => split <;> (cases hq : s.queue q; simp_all)
    · simp_all
    all_goals (next h => cases hq : s.queue q; simp_all)
  · rw [if_neg (Port.peer_ne p)]
    split
    · split <;> simp
    all_goals simp

@[simp] theorem State.queueAfterCompletion_frame (s : State) (p : Port) (st : Status) :
    (s.queueAfterCompletion p st).pool = s.pool ∧ (s.queueAfterCompletion p st).seq = s.seq ∧
      (s.queueAfterCompletion p st).arbiter = s.arbiter ∧ (s.queueAfterCompletion p st).regions = s.regions ∧
      (s.queueAfterCompletion p st).hold = s.hold ∧ (s.queueAfterCompletion p st).profile = s.profile ∧
      (s.queueAfterCompletion p st).counters = s.counters ∧ (s.queueAfterCompletion p st).powerOnReset = s.powerOnReset ∧
      (s.queueAfterCompletion p st).ticks = s.ticks ∧ (s.queueAfterCompletion p st).pending = s.pending ∧
      (∀ b, (s.queueAfterCompletion p st).holder b = s.holder b) ∧
      (∀ q, (s.queueAfterCompletion p st).holdOf q = s.holdOf q) ∧ (s.queueAfterCompletion p st).prof = s.prof ∧
      (s.queueAfterCompletion p st).capacity = s.capacity ∧
      (∀ q, (s.queueAfterCompletion p st).aperture q = s.aperture q) ∧
      (∀ q, ((s.queueAfterCompletion p st).port q).inReset = (s.port q).inReset) ∧
      (∀ q, ((s.queueAfterCompletion p st).port q).claimRefused = (s.port q).claimRefused) ∧
      (∀ q, ((s.queueAfterCompletion p st).port q).bufSel = (s.port q).bufSel) ∧
      (∀ q, ((s.queueAfterCompletion p st).port q).result = (s.port q).result) := by
  unfold State.queueAfterCompletion; (repeat' split) <;> simp

@[simp] theorem State.finishSlot_frame (s : State) (p : Port) (n : Fin 8) (c : Completion) :
    (s.finishSlot p n c).seq = s.seq ∧ (s.finishSlot p n c).arbiter = s.arbiter ∧
      (s.finishSlot p n c).regions = s.regions ∧ (s.finishSlot p n c).hold = s.hold ∧
      (s.finishSlot p n c).profile = s.profile ∧ (s.finishSlot p n c).counters = s.counters ∧
      (s.finishSlot p n c).powerOnReset = s.powerOnReset ∧ (s.finishSlot p n c).ticks = s.ticks ∧
      (s.finishSlot p n c).pending = s.pending ∧ (∀ q, (s.finishSlot p n c).holdOf q = s.holdOf q) ∧
      (s.finishSlot p n c).prof = s.prof ∧ (s.finishSlot p n c).capacity = s.capacity ∧
      (∀ q, (s.finishSlot p n c).aperture q = s.aperture q) ∧
      (∀ q, ((s.finishSlot p n c).port q).inReset = (s.port q).inReset) ∧
      (∀ q, ((s.finishSlot p n c).port q).claimRefused = (s.port q).claimRefused) ∧
      (∀ q, ((s.finishSlot p n c).port q).bufSel = (s.port q).bufSel) ∧
      (∀ q, ((s.finishSlot p n c).port q).result = (s.port q).result) := by
  unfold State.finishSlot; (repeat' split) <;> simp

/-- A slot that is not waiting is left as it is. -/
theorem State.finishSlot_of_none {s : State} {p : Port} {n : Fin 8} (h : (s.queue p).slots[n].waiting = none) (c : Completion) :
    s.finishSlot p n c = s := by unfold State.finishSlot; rw [h]

/-- The ring after slot `n` of port `p` completed (R15, R16, R17). -/
theorem State.finishSlot_queue {s : State} {p : Port} {n : Fin 8} {op : SlotOp}
    (h : (s.queue p).slots[n].waiting = some op) (c : Completion) (q : Port) :
    (s.finishSlot p n c).queue q
      = if q = p then
          { (s.queue p).setSlot n (.done op c) with
            state := (s.queue p).state.afterCompletion (c.status.isError && (s.queue p).haltOnError) }
        else s.queue q := by
  unfold State.finishSlot
  rw [h]
  rcases Port.eq_or_peer p q with rfl | rfl <;> simp only <;> split <;>
    simp [State.queueAfterCompletion_queue, Queue.setSlot]

/-- The holders after a completion: the slot's buffer is the port's again (R89). -/
theorem State.finishSlot_holder {s : State} {p : Port} {n : Fin 8} {op : SlotOp}
    (h : (s.queue p).slots[n].waiting = some op) (c : Completion) (b : Fin 16) :
    (s.finishSlot p n c).holder b = if op.buffer = some b then .port p else s.holder b := by
  unfold State.finishSlot
  rw [h]
  simp only
  split <;> simp [State.returnBuffer_holder]

@[simp] theorem State.finishSlot_bytes (s : State) (p : Port) (n : Fin 8) (c : Completion) :
    (s.finishSlot p n c).pool.bytes = s.pool.bytes := by
  unfold State.finishSlot; split <;> (try split) <;> simp

@[simp] theorem State.grantHold_frame (s : State) (p : Port) :
    (s.grantHold p).pool = s.pool ∧ (s.grantHold p).seq = s.seq ∧ (s.grantHold p).arbiter = s.arbiter ∧
      (s.grantHold p).regions = s.regions ∧ (s.grantHold p).profile = s.profile ∧ (s.grantHold p).counters = s.counters ∧
      (s.grantHold p).powerOnReset = s.powerOnReset ∧ (s.grantHold p).ticks = s.ticks ∧
      (s.grantHold p).pending = s.pending ∧ (∀ b, (s.grantHold p).holder b = s.holder b) ∧
      (s.grantHold p).prof = s.prof ∧ (s.grantHold p).capacity = s.capacity ∧
      (∀ q, (s.grantHold p).queue q = s.queue q) ∧ (∀ q, (s.grantHold p).aperture q = s.aperture q) ∧
      (∀ q, ((s.grantHold p).port q).inReset = (s.port q).inReset) ∧
      (∀ q, ((s.grantHold p).port q).claimRefused = (s.port q).claimRefused) ∧
      (∀ q, ((s.grantHold p).port q).bufSel = (s.port q).bufSel) ∧
      (∀ q, ((s.grantHold p).port q).result = (s.port q).result) := by
  simp [State.grantHold]

theorem State.grantHold_holdOf (s : State) (p q : Port) : (s.grantHold p).holdOf q = if q = p then .held else s.holdOf q := by
  have h : (s.grantHold p).holdOf q = (s.setHold p .held).holdOf q := by simp [State.grantHold]
  rw [h]; rcases Port.eq_or_peer p q with rfl | rfl <;> simp
@[simp] theorem State.grantHold_timer (s : State) (p : Port) :
    (s.grantHold p).hold.timer = startTimer (s.hold.duration.toNat * 1000) := by simp [State.grantHold]
@[simp] theorem State.grantHold_duration (s : State) (p : Port) : (s.grantHold p).hold.duration = s.hold.duration := by
  simp [State.grantHold]

@[simp] theorem State.holdNotice_frame (s : State) (p : Port) :
    (s.holdNotice p).pool = s.pool ∧ (s.holdNotice p).seq = s.seq ∧ (s.holdNotice p).arbiter = s.arbiter ∧
      (s.holdNotice p).regions = s.regions ∧ (s.holdNotice p).profile = s.profile ∧
      (s.holdNotice p).counters = s.counters ∧ (s.holdNotice p).powerOnReset = s.powerOnReset ∧
      (s.holdNotice p).ticks = s.ticks ∧ (s.holdNotice p).pending = s.pending ∧
      (∀ b, (s.holdNotice p).holder b = s.holder b) ∧ (s.holdNotice p).prof = s.prof ∧
      (s.holdNotice p).capacity = s.capacity ∧ (∀ q, (s.holdNotice p).queue q = s.queue q) ∧
      (∀ q, (s.holdNotice p).aperture q = s.aperture q) ∧ (∀ q, ((s.holdNotice p).port q).inReset = (s.port q).inReset) ∧
      (∀ q, ((s.holdNotice p).port q).claimRefused = (s.port q).claimRefused) ∧
      (∀ q, ((s.holdNotice p).port q).bufSel = (s.port q).bufSel) ∧
      (∀ q, ((s.holdNotice p).port q).result = (s.port q).result) := by
  unfold State.holdNotice; split <;> simp

/-- Only a pending hold of the peer is granted, and only when its drain set is empty (R136). -/
theorem State.holdNotice_holdOf (s : State) (p q : Port) :
    (s.holdNotice p).holdOf q
      = if q = p.peer ∧ s.holdOf p.peer = .pending ∧ s.drained p.peer = true then .held else s.holdOf q := by
  unfold State.holdNotice
  split
  · next h => simp_all [State.grantHold_holdOf]
  · next h => rw [if_neg]; simp_all

@[simp] theorem State.handOver_frame (s : State) (r : OpRecord) (st : Status) (d : Byte) :
    (s.handOver r st d).seq = s.seq ∧ (s.handOver r st d).arbiter = s.arbiter ∧ (s.handOver r st d).regions = s.regions ∧
      (s.handOver r st d).hold = s.hold ∧ (s.handOver r st d).profile = s.profile ∧
      (s.handOver r st d).counters = s.counters ∧ (s.handOver r st d).powerOnReset = s.powerOnReset ∧
      (s.handOver r st d).ticks = s.ticks ∧ (s.handOver r st d).pending = s.pending ∧
      (∀ q, (s.handOver r st d).holdOf q = s.holdOf q) ∧ (s.handOver r st d).prof = s.prof ∧
      (s.handOver r st d).capacity = s.capacity ∧ (∀ q, (s.handOver r st d).aperture q = s.aperture q) ∧
      (∀ q, ((s.handOver r st d).port q).inReset = (s.port q).inReset) ∧
      (∀ q, ((s.handOver r st d).port q).bufSel = (s.port q).bufSel) ∧
      (∀ q, ((s.handOver r st d).port q).result = (s.port q).result) := by
  unfold State.handOver; (repeat' split) <;> simp

@[simp] theorem State.complete_frame (s : State) (r : OpRecord) (st : Status) (d : Byte) :
    (s.complete r st d).arbiter = s.arbiter ∧ (s.complete r st d).regions = s.regions ∧
      (s.complete r st d).profile = s.profile ∧ (s.complete r st d).counters = s.counters ∧
      (s.complete r st d).powerOnReset = s.powerOnReset ∧ (s.complete r st d).ticks = s.ticks ∧
      (s.complete r st d).pending = s.pending ∧ (s.complete r st d).prof = s.prof ∧
      (s.complete r st d).capacity = s.capacity ∧ (∀ q, (s.complete r st d).aperture q = s.aperture q) ∧
      (∀ q, ((s.complete r st d).port q).inReset = (s.port q).inReset) ∧
      (∀ q, ((s.complete r st d).port q).bufSel = (s.port q).bufSel) ∧
      (∀ q, ((s.complete r st d).port q).result = (s.port q).result) := by
  simp [State.complete]

@[simp] theorem State.complete_seq (s : State) (r : OpRecord) (st : Status) (d : Byte) :
    (s.complete r st d).seq = { s.seq with active := none } := by simp [State.complete]
@[simp] theorem State.handOver_bytes (s : State) (r : OpRecord) (st : Status) (d : Byte) :
    (s.handOver r st d).pool.bytes = s.pool.bytes := by unfold State.handOver; (repeat' split) <;> simp
@[simp] theorem State.complete_bytes (s : State) (r : OpRecord) (st : Status) (d : Byte) :
    (s.complete r st d).pool.bytes = s.pool.bytes := by simp [State.complete]

/-- The rings after a completion: only the slot the record names, and only for a record not marked orphan (R16, R26). -/
theorem State.complete_queue (s : State) (r : OpRecord) (st : Status) (d : Byte) (q : Port) :
    (s.complete r st d).queue q
      = match r.orphan, r.source with
        | false, .queue p n => (s.removeActive.finishSlot p n { status := st, detail := d, suspends := r.suspends }).queue q
        | _, _ => s.queue q := by
  unfold State.complete State.handOver
  cases r.orphan
  · cases r.source <;> simp
  · cases r.buffer <;> simp

/-- The holders after a completion: the slot's buffer returns, an orphan's becomes FREE (R89, R90). -/
theorem State.complete_holder (s : State) (r : OpRecord) (st : Status) (d : Byte) (b : Fin 16) :
    (s.complete r st d).holder b
      = match r.orphan, r.source with
        | false, .queue p n => (s.removeActive.finishSlot p n { status := st, detail := d, suspends := r.suspends }).holder b
        | false, .fill _ => s.holder b
        | true, _ => if r.buffer = some b then .free else s.holder b := by
  unfold State.complete State.handOver
  cases r.orphan
  · cases r.source <;> simp
  · cases h : r.buffer <;> simp [State.freeBuffer_holder, eq_comm]

theorem State.complete_holdOf (s : State) (r : OpRecord) (st : Status) (d : Byte) (q : Port) :
    (s.complete r st d).holdOf q
      = if q = r.source.port.peer ∧ s.holdOf q = .pending ∧ s.removeActive.drained q = true then .held
        else s.holdOf q := by
  simp only [State.complete, State.holdNotice_holdOf, State.drained]
  by_cases h : q = r.source.port.peer <;> simp_all

@[simp] theorem State.endStall_frame (s : State) (p : Port) (d : Option Byte) :
    (s.endStall p d).pool = s.pool ∧ (s.endStall p d).seq = s.seq ∧ (s.endStall p d).arbiter = s.arbiter ∧
      (s.endStall p d).regions = s.regions ∧ (s.endStall p d).hold = s.hold ∧ (s.endStall p d).profile = s.profile ∧
      (s.endStall p d).counters = s.counters ∧ (s.endStall p d).powerOnReset = s.powerOnReset ∧
      (s.endStall p d).ticks = s.ticks ∧ (s.endStall p d).pending = s.pending ∧
      (∀ b, (s.endStall p d).holder b = s.holder b) ∧ (∀ q, (s.endStall p d).holdOf q = s.holdOf q) ∧
      (s.endStall p d).prof = s.prof ∧ (s.endStall p d).capacity = s.capacity ∧
      (∀ q, (s.endStall p d).queue q = s.queue q) ∧ (∀ q, (s.endStall p d).events q = s.events q) ∧
      (∀ q, ((s.endStall p d).port q).inReset = (s.port q).inReset) ∧
      (∀ q, ((s.endStall p d).port q).claimRefused = (s.port q).claimRefused) ∧
      (∀ q, ((s.endStall p d).port q).bufSel = (s.port q).bufSel) ∧
      (∀ q, ((s.endStall p d).port q).result = (s.port q).result) := by
  simp [State.endStall]

theorem State.endStall_aperture (s : State) (p q : Port) (d : Option Byte) :
    (s.endStall p d).aperture q
      = if q = p then { s.aperture p with stalled := false, stallTimer := none } else s.aperture q := by
  simp [State.endStall, State.modAperture_aperture_eq]

@[simp] theorem State.fillArrival_frame (s : State) (p : Port) (g : Option (BitVec 16)) (data : List Byte) :
    (s.fillArrival p g data).pool = s.pool ∧ (s.fillArrival p g data).seq = s.seq ∧
      (s.fillArrival p g data).arbiter = s.arbiter ∧ (s.fillArrival p g data).regions = s.regions ∧
      (s.fillArrival p g data).hold = s.hold ∧ (s.fillArrival p g data).profile = s.profile ∧
      (s.fillArrival p g data).counters = s.counters ∧ (s.fillArrival p g data).powerOnReset = s.powerOnReset ∧
      (s.fillArrival p g data).ticks = s.ticks ∧ (s.fillArrival p g data).pending = s.pending ∧
      (∀ b, (s.fillArrival p g data).holder b = s.holder b) ∧ (∀ q, (s.fillArrival p g data).holdOf q = s.holdOf q) ∧
      (s.fillArrival p g data).prof = s.prof ∧ (s.fillArrival p g data).capacity = s.capacity ∧
      (∀ q, (s.fillArrival p g data).queue q = s.queue q) ∧ (∀ q, (s.fillArrival p g data).events q = s.events q) ∧
      (∀ q, ((s.fillArrival p g data).port q).inReset = (s.port q).inReset) ∧
      (∀ q, ((s.fillArrival p g data).port q).claimRefused = (s.port q).claimRefused) ∧
      (∀ q, ((s.fillArrival p g data).port q).bufSel = (s.port q).bufSel) ∧
      (∀ q, ((s.fillArrival p g data).port q).result = (s.port q).result) := by
  unfold State.fillArrival; simp only; (repeat' split) <;> simp

/-- The aperture that an arrival leaves (R105): a stale arrival clears the marker alone; a current one gives its first byte to
a stalled read and the rest to the FIFO. -/
def Aperture.afterArrival (a : Aperture) (capacity : Nat) (g : Option (BitVec 16)) (data : List Byte) : Aperture :=
  if g = some a.generation ∧ a.state = .opened then
    match a.stalled, data with
    | true, _ :: rest =>
      Aperture.endAtCapacity capacity
        { a with stalled := false, stallTimer := none, inFlight := false, current := a.current + 1, fifo := a.fifo ++ rest,
                 fetch := a.fetch + data.length }
    | _, _ => Aperture.endAtCapacity capacity { a with inFlight := false, fifo := a.fifo ++ data, fetch := a.fetch + data.length }
  else { a with inFlight := false }

theorem State.fillArrival_aperture (s : State) (p q : Port) (g : Option (BitVec 16)) (data : List Byte) :
    (s.fillArrival p g data).aperture q
      = if q = p then (s.aperture p).afterArrival s.capacity g data else s.aperture q := by
  unfold State.fillArrival Aperture.afterArrival
  by_cases hg : g = some (s.aperture p).generation ∧ (s.aperture p).state = .opened
  · rcases Port.eq_or_peer p q with rfl | rfl <;> cases hs : (s.aperture _).stalled <;> cases data <;>
      simp_all [State.endStall_aperture]
  · rw [if_neg (by simpa using hg), if_neg hg]
    exact s.modAperture_aperture_eq p q _

end Sys2Proof.Machine
end

