-- ==== Sys2Proof/Laws/Arbiter.lean ====
section
/-! SUPPORT. What a grant, a grant point and an evaluation of the suspend request change, and that they change nothing else. -/

namespace Sys2Proof.Machine

@[simp] theorem State.startOperation_frame (s : State) (r : OpRecord) :
    (s.startOperation r).ports = s.ports ∧ (s.startOperation r).pool = s.pool ∧
      (s.startOperation r).arbiter = s.arbiter ∧ (s.startOperation r).regions = s.regions ∧
      (s.startOperation r).hold = s.hold ∧ (s.startOperation r).profile = s.profile ∧
      (s.startOperation r).counters = s.counters ∧ (s.startOperation r).powerOnReset = s.powerOnReset ∧
      (s.startOperation r).ticks = s.ticks ∧ (s.startOperation r).pending = s.pending ∧
      (∀ b, (s.startOperation r).holder b = s.holder b) ∧ (∀ q, (s.startOperation r).holdOf q = s.holdOf q) ∧
      (s.startOperation r).prof = s.prof ∧ (s.startOperation r).capacity = s.capacity ∧
      (∀ q, (s.startOperation r).port q = s.port q) ∧ (∀ q, (s.startOperation r).queue q = s.queue q) ∧
      (∀ q, (s.startOperation r).aperture q = s.aperture q) ∧ (∀ q, (s.startOperation r).events q = s.events q) := by
  unfold State.startOperation; split <;> simp

/-- The sequencer after it took an operation: the record, the state by its class, and the first transaction called for (R31). -/
theorem State.startOperation_seq (s : State) (r : OpRecord) :
    (s.startOperation r).seq
      = { s.seq with active := some r, state := if r.kind.isWrite then .writing else .reading,
                     line := .called (if r.kind.isWrite then .writeEnable else .read) } := by
  unfold State.startOperation; split <;> simp_all

@[simp] theorem State.purge_frame (s : State) (r : Range) :
    (s.purge r).pool = s.pool ∧ (s.purge r).seq = s.seq ∧ (s.purge r).arbiter = s.arbiter ∧
      (s.purge r).regions = s.regions ∧ (s.purge r).hold = s.hold ∧ (s.purge r).profile = s.profile ∧
      (s.purge r).counters = s.counters ∧ (s.purge r).powerOnReset = s.powerOnReset ∧ (s.purge r).ticks = s.ticks ∧
      (s.purge r).pending = s.pending ∧ (∀ b, (s.purge r).holder b = s.holder b) ∧
      (∀ q, (s.purge r).holdOf q = s.holdOf q) ∧ (s.purge r).prof = s.prof ∧ (s.purge r).capacity = s.capacity ∧
      (∀ q, (s.purge r).queue q = s.queue q) ∧ (∀ q, (s.purge r).events q = s.events q) ∧
      (∀ q, ((s.purge r).port q).inReset = (s.port q).inReset) ∧
      (∀ q, ((s.purge r).port q).claimRefused = (s.port q).claimRefused) ∧
      (∀ q, ((s.purge r).port q).bufSel = (s.port q).bufSel) ∧ (∀ q, ((s.purge r).port q).result = (s.port q).result) := by
  simp [State.purge]

theorem State.purge_aperture (s : State) (r : Range) (q : Port) : (s.purge r).aperture q = (s.aperture q).purge r := by
  cases q <;> simp [State.purge, State.modAperture_aperture_eq]

@[simp] theorem State.denyFill_frame (s : State) (p : Port) :
    (s.denyFill p).pool = s.pool ∧ (s.denyFill p).seq = s.seq ∧ (s.denyFill p).arbiter = s.arbiter ∧
      (s.denyFill p).regions = s.regions ∧ (s.denyFill p).hold = s.hold ∧ (s.denyFill p).profile = s.profile ∧
      (s.denyFill p).counters = s.counters ∧ (s.denyFill p).powerOnReset = s.powerOnReset ∧
      (s.denyFill p).ticks = s.ticks ∧ (s.denyFill p).pending = s.pending ∧ (∀ b, (s.denyFill p).holder b = s.holder b) ∧
      (∀ q, (s.denyFill p).holdOf q = s.holdOf q) ∧ (s.denyFill p).prof = s.prof ∧ (s.denyFill p).capacity = s.capacity ∧
      (∀ q, (s.denyFill p).queue q = s.queue q) ∧ (∀ q, ((s.denyFill p).port q).inReset = (s.port q).inReset) ∧
      (∀ q, ((s.denyFill p).port q).claimRefused = (s.port q).claimRefused) ∧
      (∀ q, ((s.denyFill p).port q).bufSel = (s.port q).bufSel) ∧
      (∀ q, ((s.denyFill p).port q).result = (s.port q).result) := by
  unfold State.denyFill; simp only; split <;> simp

theorem State.denyFill_aperture (s : State) (p q : Port) :
    (s.denyFill p).aperture q
      = if q = p then { s.aperture p with state := .denied, stalled := false,
                                          stallTimer := if (s.aperture p).stalled then none else (s.aperture p).stallTimer }
        else s.aperture q := by
  unfold State.denyFill
  rcases Port.eq_or_peer p q with rfl | rfl <;> cases h : (s.aperture _).stalled <;>
    simp [State.endStall_aperture, State.modAperture_aperture_eq, h]

@[simp] theorem State.grantFill_frame (s : State) (p : Port) :
    (s.grantFill p).pool = s.pool ∧ (s.grantFill p).regions = s.regions ∧ (s.grantFill p).hold = s.hold ∧
      (s.grantFill p).profile = s.profile ∧ (s.grantFill p).counters = s.counters ∧
      (s.grantFill p).powerOnReset = s.powerOnReset ∧ (s.grantFill p).ticks = s.ticks ∧
      (s.grantFill p).pending = s.pending ∧ (∀ b, (s.grantFill p).holder b = s.holder b) ∧
      (∀ q, (s.grantFill p).holdOf q = s.holdOf q) ∧ (s.grantFill p).prof = s.prof ∧
      (s.grantFill p).capacity = s.capacity ∧ (∀ q, (s.grantFill p).queue q = s.queue q) ∧
      (∀ q, ((s.grantFill p).port q).inReset = (s.port q).inReset) ∧
      (∀ q, ((s.grantFill p).port q).claimRefused = (s.port q).claimRefused) ∧
      (∀ q, ((s.grantFill p).port q).bufSel = (s.port q).bufSel) ∧
      (∀ q, ((s.grantFill p).port q).result = (s.port q).result) := by
  unfold State.grantFill; simp only; split <;> simp

@[simp] theorem State.denyHead_frame (s : State) (p : Port) (d : Nat) :
    (s.denyHead p d).seq = s.seq ∧ (s.denyHead p d).arbiter = s.arbiter ∧ (s.denyHead p d).regions = s.regions ∧
      (s.denyHead p d).hold = s.hold ∧ (s.denyHead p d).profile = s.profile ∧ (s.denyHead p d).counters = s.counters ∧
      (s.denyHead p d).powerOnReset = s.powerOnReset ∧ (s.denyHead p d).ticks = s.ticks ∧
      (s.denyHead p d).pending = s.pending ∧ (∀ q, (s.denyHead p d).holdOf q = s.holdOf q) ∧
      (s.denyHead p d).prof = s.prof ∧ (s.denyHead p d).capacity = s.capacity ∧
      (∀ q, (s.denyHead p d).aperture q = s.aperture q) ∧ (∀ q, ((s.denyHead p d).port q).inReset = (s.port q).inReset) ∧
      (∀ q, ((s.denyHead p d).port q).claimRefused = (s.port q).claimRefused) ∧
      (∀ q, ((s.denyHead p d).port q).bufSel = (s.port q).bufSel) ∧
      (∀ q, ((s.denyHead p d).port q).result = (s.port q).result) := by
  simp [State.denyHead]

@[simp] theorem State.startHead_frame (s : State) (p : Port) (op : SlotOp) :
    (s.startHead p op).pool = s.pool ∧ (s.startHead p op).arbiter = s.arbiter ∧ (s.startHead p op).regions = s.regions ∧
      (s.startHead p op).hold = s.hold ∧ (s.startHead p op).profile = s.profile ∧
      (s.startHead p op).counters = s.counters ∧ (s.startHead p op).powerOnReset = s.powerOnReset ∧
      (s.startHead p op).ticks = s.ticks ∧ (s.startHead p op).pending = s.pending ∧
      (∀ b, (s.startHead p op).holder b = s.holder b) ∧ (∀ q, (s.startHead p op).holdOf q = s.holdOf q) ∧
      (s.startHead p op).prof = s.prof ∧ (s.startHead p op).capacity = s.capacity ∧
      (∀ q, (s.startHead p op).events q = s.events q) ∧ (∀ q, ((s.startHead p op).port q).inReset = (s.port q).inReset) ∧
      (∀ q, ((s.startHead p op).port q).claimRefused = (s.port q).claimRefused) ∧
      (∀ q, ((s.startHead p op).port q).bufSel = (s.port q).bufSel) ∧
      (∀ q, ((s.startHead p op).port q).result = (s.port q).result) := by
  unfold State.startHead; simp only; split <;> simp

@[simp] theorem State.grantHead_frame (s : State) (p : Port) :
    (s.grantHead p).regions = s.regions ∧ (s.grantHead p).hold = s.hold ∧ (s.grantHead p).profile = s.profile ∧
      (s.grantHead p).counters = s.counters ∧ (s.grantHead p).powerOnReset = s.powerOnReset ∧
      (s.grantHead p).ticks = s.ticks ∧ (s.grantHead p).pending = s.pending ∧
      (∀ q, (s.grantHead p).holdOf q = s.holdOf q) ∧ (s.grantHead p).prof = s.prof ∧
      (s.grantHead p).capacity = s.capacity ∧ (∀ q, ((s.grantHead p).port q).inReset = (s.port q).inReset) ∧
      (∀ q, ((s.grantHead p).port q).claimRefused = (s.port q).claimRefused) ∧
      (∀ q, ((s.grantHead p).port q).bufSel = (s.port q).bufSel) ∧
      (∀ q, ((s.grantHead p).port q).result = (s.port q).result) := by
  unfold State.grantHead; (repeat' split) <;> simp

@[simp] theorem State.grantResume_frame (s : State) :
    (s.grantResume).ports = s.ports ∧ (s.grantResume).pool = s.pool ∧ (s.grantResume).regions = s.regions ∧
      (s.grantResume).hold = s.hold ∧ (s.grantResume).profile = s.profile ∧ (s.grantResume).counters = s.counters ∧
      (s.grantResume).powerOnReset = s.powerOnReset ∧ (s.grantResume).ticks = s.ticks ∧
      (s.grantResume).pending = s.pending ∧ (∀ b, (s.grantResume).holder b = s.holder b) ∧
      (∀ q, (s.grantResume).holdOf q = s.holdOf q) ∧ (s.grantResume).prof = s.prof ∧
      (s.grantResume).capacity = s.capacity ∧ (∀ q, (s.grantResume).port q = s.port q) ∧
      (∀ q, (s.grantResume).queue q = s.queue q) ∧ (∀ q, (s.grantResume).aperture q = s.aperture q) ∧
      (∀ q, (s.grantResume).events q = s.events q) := by
  unfold State.grantResume; split
  · simp
  · exact ⟨rfl, rfl, rfl, rfl, rfl, rfl, rfl, rfl, rfl, fun _ => rfl, fun _ => rfl, rfl, rfl, fun _ => rfl, fun _ => rfl, fun _ => rfl, fun _ => rfl⟩

@[simp] theorem State.grant_frame (s : State) (c : Candidate) :
    (s.grant c).regions = s.regions ∧ (s.grant c).hold = s.hold ∧ (s.grant c).profile = s.profile ∧
      (s.grant c).counters = s.counters ∧ (s.grant c).powerOnReset = s.powerOnReset ∧ (s.grant c).ticks = s.ticks ∧
      (s.grant c).pending = s.pending ∧ (∀ q, (s.grant c).holdOf q = s.holdOf q) ∧ (s.grant c).prof = s.prof ∧
      (s.grant c).capacity = s.capacity ∧ (∀ q, ((s.grant c).port q).inReset = (s.port q).inReset) ∧
      (∀ q, ((s.grant c).port q).claimRefused = (s.port q).claimRefused) ∧
      (∀ q, ((s.grant c).port q).bufSel = (s.port q).bufSel) ∧ (∀ q, ((s.grant c).port q).result = (s.port q).result) := by
  unfold State.grant; split <;> simp

/-- A property that every grant keeps, a grant point keeps. -/
theorem grantRepeat_induct {P : State → Prop} (hg : ∀ s c, P s → s.seq.state = .idle → s.choose = some c → P (s.grant c))
    (n : Nat) (s : State) (h : P s) : P (grantRepeat n s) := by
  induction n generalizing s with
  | zero => exact h
  | succ n ih =>
    unfold grantRepeat
    split
    · next hi =>
      split
      · next c hc => exact ih _ (hg s c h hi hc)
      · exact h
    · exact h

@[simp] theorem State.grantPoint_frame (s : State) :
    (s.grantPoint).regions = s.regions ∧ (s.grantPoint).hold = s.hold ∧ (s.grantPoint).profile = s.profile ∧
      (s.grantPoint).counters = s.counters ∧ (s.grantPoint).powerOnReset = s.powerOnReset ∧
      (s.grantPoint).ticks = s.ticks ∧ (s.grantPoint).pending = s.pending ∧ (∀ q, (s.grantPoint).holdOf q = s.holdOf q) ∧
      (s.grantPoint).prof = s.prof ∧ (s.grantPoint).capacity = s.capacity ∧
      (∀ q, ((s.grantPoint).port q).inReset = (s.port q).inReset) ∧
      (∀ q, ((s.grantPoint).port q).claimRefused = (s.port q).claimRefused) ∧
      (∀ q, ((s.grantPoint).port q).bufSel = (s.port q).bufSel) ∧
      (∀ q, ((s.grantPoint).port q).result = (s.port q).result) := by
  exact grantRepeat_induct (P := fun t => (t).regions = s.regions ∧ (t).hold = s.hold ∧ (t).profile = s.profile ∧ (t).counters = s.counters ∧ (t).powerOnReset = s.powerOnReset ∧ (t).ticks = s.ticks ∧ (t).pending = s.pending ∧ (∀ q, (t).holdOf q = s.holdOf q) ∧ (t).prof = s.prof ∧ (t).capacity = s.capacity ∧ (∀ q, ((t).port q).inReset = (s.port q).inReset) ∧ (∀ q, ((t).port q).claimRefused = (s.port q).claimRefused) ∧ (∀ q, ((t).port q).bufSel = (s.port q).bufSel) ∧ (∀ q, ((t).port q).result = (s.port q).result)) (fun t c h _ _ => by simpa using h) 19 s (by simp)

@[simp] theorem State.enterIdle_frame (s : State) :
    (s.enterIdle).regions = s.regions ∧ (s.enterIdle).hold = s.hold ∧ (s.enterIdle).profile = s.profile ∧
      (s.enterIdle).counters = s.counters ∧ (s.enterIdle).powerOnReset = s.powerOnReset ∧ (s.enterIdle).ticks = s.ticks ∧
      (s.enterIdle).pending = s.pending ∧ (∀ q, (s.enterIdle).holdOf q = s.holdOf q) ∧ (s.enterIdle).prof = s.prof ∧
      (s.enterIdle).capacity = s.capacity ∧ (∀ q, ((s.enterIdle).port q).inReset = (s.port q).inReset) ∧
      (∀ q, ((s.enterIdle).port q).claimRefused = (s.port q).claimRefused) ∧
      (∀ q, ((s.enterIdle).port q).bufSel = (s.port q).bufSel) ∧ (∀ q, ((s.enterIdle).port q).result = (s.port q).result) := by
  simp [State.enterIdle]

@[simp] theorem State.takeSuspendRequest_frame (s : State) :
    (s.takeSuspendRequest).ports = s.ports ∧ (s.takeSuspendRequest).pool = s.pool ∧
      (s.takeSuspendRequest).regions = s.regions ∧ (s.takeSuspendRequest).hold = s.hold ∧
      (s.takeSuspendRequest).profile = s.profile ∧ (s.takeSuspendRequest).counters = s.counters ∧
      (s.takeSuspendRequest).powerOnReset = s.powerOnReset ∧ (s.takeSuspendRequest).ticks = s.ticks ∧
      (s.takeSuspendRequest).pending = s.pending ∧ (∀ b, (s.takeSuspendRequest).holder b = s.holder b) ∧
      (∀ q, (s.takeSuspendRequest).holdOf q = s.holdOf q) ∧ (s.takeSuspendRequest).prof = s.prof ∧
      (s.takeSuspendRequest).capacity = s.capacity ∧ (∀ q, (s.takeSuspendRequest).port q = s.port q) ∧
      (∀ q, (s.takeSuspendRequest).queue q = s.queue q) ∧ (∀ q, (s.takeSuspendRequest).aperture q = s.aperture q) ∧
      (∀ q, (s.takeSuspendRequest).events q = s.events q) := by
  exact ⟨rfl, rfl, rfl, rfl, rfl, rfl, rfl, rfl, rfl, fun _ => rfl, fun _ => rfl, rfl, rfl, fun _ => rfl, fun _ => rfl, fun _ => rfl, fun _ => rfl⟩

@[simp] theorem State.takeSuspendRequest_seq (s : State) :
    s.takeSuspendRequest.seq
      = { s.seq with state := .suspending, pollTimer := none, line := .called .suspend, handshakeReads := 0 } := rfl
@[simp] theorem State.takeSuspendRequest_arbiter (s : State) :
    s.takeSuspendRequest.arbiter = { s.arbiter with suspendRequest := false } := rfl

/-- The three outcomes of an evaluation of the suspend request (R43, R74): nothing; raised and held for the poll on the line;
raised and taken at once. -/
theorem State.evaluateSuspend_cases (s : State) :
    s.evaluateSuspend = s
      ∨ (s.suspendable = true ∧ s.readWaits = true ∧ s.seq.pollTimer = none
          ∧ s.evaluateSuspend = { s with arbiter := { s.arbiter with suspendRequest := true } })
      ∨ (s.suspendable = true ∧ s.readWaits = true ∧ s.seq.pollTimer.isSome = true
          ∧ s.evaluateSuspend = s.takeSuspendRequest) := by
  unfold State.evaluateSuspend
  split
  · next h =>
    simp only [Bool.and_eq_true, Bool.not_eq_true'] at h
    right
    by_cases hp : s.seq.pollTimer.isSome = true
    · right; exact ⟨h.1.2, h.2, hp, by simp [hp]; rfl⟩
    · left; exact ⟨h.1.2, h.2, by simpa using hp, by simp [hp]⟩
  · left; rfl

@[simp] theorem State.evaluateSuspend_frame (s : State) :
    (s.evaluateSuspend).ports = s.ports ∧ (s.evaluateSuspend).pool = s.pool ∧ (s.evaluateSuspend).regions = s.regions ∧
      (s.evaluateSuspend).hold = s.hold ∧ (s.evaluateSuspend).profile = s.profile ∧
      (s.evaluateSuspend).counters = s.counters ∧ (s.evaluateSuspend).powerOnReset = s.powerOnReset ∧
      (s.evaluateSuspend).ticks = s.ticks ∧ (s.evaluateSuspend).pending = s.pending ∧
      (∀ b, (s.evaluateSuspend).holder b = s.holder b) ∧ (∀ q, (s.evaluateSuspend).holdOf q = s.holdOf q) ∧
      (s.evaluateSuspend).prof = s.prof ∧ (s.evaluateSuspend).capacity = s.capacity ∧
      (∀ q, (s.evaluateSuspend).port q = s.port q) ∧ (∀ q, (s.evaluateSuspend).queue q = s.queue q) ∧
      (∀ q, (s.evaluateSuspend).aperture q = s.aperture q) ∧ (∀ q, (s.evaluateSuspend).events q = s.events q) := by
  rcases s.evaluateSuspend_cases with h | ⟨_, _, _, h⟩ | ⟨_, _, _, h⟩ <;> rw [h]
  · simp
  · exact ⟨rfl, rfl, rfl, rfl, rfl, rfl, rfl, rfl, rfl, fun _ => rfl, fun _ => rfl, rfl, rfl, fun _ => rfl, fun _ => rfl, fun _ => rfl, fun _ => rfl⟩
  · simp

@[simp] theorem State.consider_frame (s : State) :
    (s.consider).regions = s.regions ∧ (s.consider).hold = s.hold ∧ (s.consider).profile = s.profile ∧
      (s.consider).counters = s.counters ∧ (s.consider).powerOnReset = s.powerOnReset ∧ (s.consider).ticks = s.ticks ∧
      (s.consider).pending = s.pending ∧ (∀ q, (s.consider).holdOf q = s.holdOf q) ∧ (s.consider).prof = s.prof ∧
      (s.consider).capacity = s.capacity ∧ (∀ q, ((s.consider).port q).inReset = (s.port q).inReset) ∧
      (∀ q, ((s.consider).port q).claimRefused = (s.port q).claimRefused) ∧
      (∀ q, ((s.consider).port q).bufSel = (s.port q).bufSel) ∧ (∀ q, ((s.consider).port q).result = (s.port q).result) := by
  unfold State.consider; split <;> simp

end Sys2Proof.Machine
end

