-- ==== Sys2Proof/Laws/Sequencer.lean ====
section
/-! SUPPORT. What an access, a command, the end of a line transaction, and the expiry of a port's or the hold's timer can do:
each answers the state itself or its effect on the state at that moment. -/

namespace Sys2Proof.Machine

theorem State.access_of_taken {s : State} {p : Port} (h : s.accessTaken p = true) (f : State → State) : s.access p f = f s := by
  simp [State.access, h]

theorem State.access_of_not_taken {s : State} {p : Port} (h : s.accessTaken p = false) (f : State → State) : s.access p f = s := by
  simp [State.access, h]

theorem State.access_cases (s : State) (p : Port) (f : State → State) :
    s.access p f = s ∨ s.accessTaken p = true ∧ s.access p f = f s := by
  cases h : s.accessTaken p
  · exact .inl (State.access_of_not_taken h f)
  · exact .inr ⟨rfl, State.access_of_taken h f⟩

theorem State.command_of_taken {s : State} {p : Port} (h : s.accessTaken p = true) (f : State → State × Result) :
    s.command p f = (f s).1.setResult p (f s).2 := State.access_of_taken h _

theorem State.command_cases (s : State) (p : Port) (f : State → State × Result) :
    s.command p f = s ∨ s.accessTaken p = true ∧ s.command p f = (f s).1.setResult p (f s).2 := State.access_cases s p _

theorem State.accessTaken_inReset {s : State} {p : Port} (h : s.accessTaken p = true) : (s.port p).inReset = false := by
  simp only [State.accessTaken, Bool.and_eq_true, Bool.not_eq_true'] at h
  exact h.1.2

theorem State.accessTaken_powerOnReset {s : State} {p : Port} (h : s.accessTaken p = true) : s.powerOnReset = false := by
  simp only [State.accessTaken, Bool.and_eq_true, Bool.not_eq_true'] at h
  exact h.1.1

theorem State.accessTaken_stalled {s : State} {p : Port} (h : s.accessTaken p = true) : (s.aperture p).stalled = false := by
  simp only [State.accessTaken, Bool.and_eq_true, Bool.not_eq_true'] at h
  exact h.2

theorem expireStall_cases (p : Port) (s : State) :
    expireStall p s = s
      ∨ (s.aperture p).stallTimer = some 0 ∧ (s.aperture p).stalled = true
          ∧ expireStall p s = (s.endStall p (some 0xFF)).apertureCause p .stallExpired := by
  by_cases h : (s.aperture p).stallTimer = some 0 <;> cases g : (s.aperture p).stalled <;> simp [expireStall, h, g]

theorem State.heldPort_eq_some {s : State} {p : Port} (h : s.heldPort = some p) : s.holdOf p = .held := by
  unfold State.heldPort at h
  split at h
  · cases h; assumption
  · split at h
    · cases h; assumption
    · cases h

theorem expireHold_cases (s : State) :
    expireHold s = s
      ∨ ∃ p, s.hold.timer = some 0 ∧ s.holdOf p = .held
          ∧ expireHold s = (((s.setHold p .none).setHoldTimer none).holdCause p .expired).consider := by
  unfold expireHold
  split
  · rename_i p ht hp
    exact .inr ⟨p, ht, State.heldPort_eq_some hp, rfl⟩
  · exact .inl rfl

theorem expireHoldoff_cases (p : Port) (s : State) :
    expireHoldoff p s = s
      ∨ (s.events p).holdoffTimer = some 0 ∧ expireHoldoff p s = s.notify p EventUnit.completionNotice := by
  by_cases h : (s.events p).holdoffTimer = some 0 <;> simp [expireHoldoff, h]

@[simp] theorem State.lineEnded_state (s : State) (left : Nat) : (s.lineEnded left).seq.state = s.seq.state := rfl
@[simp] theorem State.lineEnded_line (s : State) (left : Nat) : (s.lineEnded left).seq.line = .idle := rfl
@[simp] theorem State.lineEnded_gap (s : State) (left : Nat) : (s.lineEnded left).seq.gap = 32 := rfl
@[simp] theorem State.lineEnded_pool (s : State) (left : Nat) : (s.lineEnded left).pool = s.pool := rfl
@[simp] theorem State.lineEnded_prof (s : State) (left : Nat) : (s.lineEnded left).prof = s.prof := rfl
@[simp] theorem State.lineEnded_arbiter (s : State) (left : Nat) : (s.lineEnded left).arbiter = s.arbiter := rfl
@[simp] theorem State.lineEnded_regions (s : State) (left : Nat) : (s.lineEnded left).regions = s.regions := rfl
@[simp] theorem State.lineEnded_profile (s : State) (left : Nat) : (s.lineEnded left).profile = s.profile := rfl
@[simp] theorem State.lineEnded_counters (s : State) (left : Nat) : (s.lineEnded left).counters = s.counters := rfl
@[simp] theorem State.lineEnded_holdOf (s : State) (left : Nat) (p : Port) : (s.lineEnded left).holdOf p = s.holdOf p := rfl
@[simp] theorem State.lineEnded_holder (s : State) (left : Nat) (b : Fin 16) : (s.lineEnded left).holder b = s.holder b := rfl
@[simp] theorem State.lineEnded_queue (s : State) (left : Nat) (p : Port) : (s.lineEnded left).queue p = s.queue p := by
  cases p <;> rfl

/-- The operation on the device at the end of its transaction: its accumulators run in BUSYWAIT and SUSPENDING only (R41). -/
theorem State.lineEnded_active (s : State) (left : Nat) :
    (s.lineEnded left).seq.active
      = if s.seq.state.accumulates then s.seq.active.map (OpRecord.elapse left) else s.seq.active := rfl

theorem State.endTransaction_eq_some (s t : State) (u : Transaction) :
    s.endTransaction u = some t ↔ ∃ left, s.seq.line = .onLine u left ∧ t = s.lineEnded left := by
  unfold State.endTransaction State.lineEnded
  cases h : s.seq.line with
  | idle => simp
  | called v => simp
  | onLine v left =>
    by_cases hv : v = u
    · subst hv; simp [eq_comm, cyclesOfMicroseconds, Config.cyclesPerMicrosecond]
    · simp [hv]

/-- The end of an operation's transaction: nothing, or the given effect on the part at that moment, for the operation as it is
at that moment. -/
theorem State.onOperationEnd_cases (s : State) (q : SeqState) (t : Transaction) (f : OpRecord → State → State) :
    s.onOperationEnd q t f = s
      ∨ ∃ left r, s.seq.line = .onLine t left ∧ s.seq.state = q ∧ (s.lineEnded left).seq.active = some r
          ∧ s.onOperationEnd q t f = f r (s.lineEnded left) := by
  unfold State.onOperationEnd
  cases h : s.endTransaction t with
  | none => exact .inl rfl
  | some s1 =>
    obtain ⟨left, hl, rfl⟩ := (State.endTransaction_eq_some s s1 t).1 h
    cases ha : (s.lineEnded left).seq.active with
    | none => exact .inl (by simp [ha])
    | some r =>
      by_cases hq : s.seq.state = q
      · exact .inr ⟨left, r, hl, hq, ha, by simp [ha, hq]⟩
      · exact .inl (by simp [ha, hq])

theorem State.onOperationEnd_onLine {s : State} {q : SeqState} {t : Transaction} {left : Nat} {r : OpRecord}
    (hl : s.seq.line = .onLine t left) (hq : s.seq.state = q) (ha : s.seq.active = some r) (f : OpRecord → State → State) :
    s.onOperationEnd q t f = f (if q.accumulates then r.elapse left else r) (s.lineEnded left) := by
  have he := (State.endTransaction_eq_some s _ t).2 ⟨left, hl, rfl⟩
  simp only [State.onOperationEnd, he, State.lineEnded_active, ha, hq]
  cases q <;> simp [SeqState.accumulates]

/-- The end of a transaction of the reset sequence: nothing, or the given effect on the part at that moment. -/
theorem State.onResetEnd_cases (s : State) (t : Transaction) (f : State → State) :
    s.onResetEnd t f = s
      ∨ ∃ left, s.seq.line = .onLine t left ∧ s.seq.state.resetting = true ∧ s.onResetEnd t f = f (s.lineEnded left) := by
  unfold State.onResetEnd
  cases h : s.endTransaction t with
  | none => exact .inl rfl
  | some s1 =>
    obtain ⟨left, hl, rfl⟩ := (State.endTransaction_eq_some s s1 t).1 h
    by_cases hq : s.seq.state.resetting = true
    · exact .inr ⟨left, hl, hq, by simp [hq]⟩
    · exact .inl (by simp [hq])

end Sys2Proof.Machine
end

