-- ==== Sys2Proof/Tests/Slice0.lean ====
section
/-! SUPPORT. Tests: the ill-formed terms that WellFormed refuses, bus writes spelled out from the command code table and the
window map, one-step results from the manual's rules and worked sequences, and for every obligation with hypotheses a
state and operands that meet them. -/

namespace Sys2Proof.Tests

open Sys2Proof Sys2Proof.Machine

-- One test after the other: each evaluates in the kernel, and a thread of its own for each of them is more than memory holds.
set_option Elab.async false

/-! ### Small states -/

/-- The profile of the manual's worked timeout (flash sequencer chapter): 4 MiB, 8 MHz, suspend supported three times. -/
def sampleProfile : Profile :=
  #v[3, 1, 3, 6, 2, 0x20, 0xD8, 5, 0x75, 0x7A, 0x66, 0x99, 0, 1, 7, 0x60, 1, 3, 5, 40, 20, 125, 20, 10, 20, 10, 200, 8, 8]

/-- Configured and IDLE, with all rights for both ports. -/
def ready : State :=
  { State.reset with
    profile := { ProfileUnit.reset with committed := some sampleProfile, staging := sampleProfile, authority := some .A }
    seq := { Sequencer.reset with state := .idle }
    regions := { RegionTable.reset with defaults := { rightsA := 7, rightsB := 7, locked := false } } }

/-- A READ of 16 bytes at 0 into buffer 0. -/
def readOp : SlotOp := { kind := .read, tag := 0x10, addr := 0, transfer := some { length := 16, buffer := 0 } }

/-- An erase of the sector at 0x10000. -/
def eraseOp : SlotOp := { kind := .eraseSector, tag := 0x12, addr := 0x10000, transfer := none }

/-- Slot 0 of a port, with the start index behind it or on it, and the queue RUNNING. -/
def withSlot (p : Port) (x : Slot) (start : Fin 8) (s : State) : State :=
  s.modQueue p fun q => { q with slots := q.slots.set 0 x, start := start, post := 1, state := .running }

/-- The record of an operation. -/
def record (source : Source) (kind : OpKind) (range : Range) (buffer : Option (Fin 16)) : OpRecord :=
  { source := source, orphan := false, kind := kind, range := range, buffer := buffer, suspends := 0, unsuspendable := false,
    busyTime := 0, runTime := 0, mismatch := none, generation := none }

/-- The record of port A's erase in slot 0. -/
def eraseRecord : OpRecord := record (.queue .A 0) (.slot .eraseSector) { first := 0x10000, length := 4096 } none

/-- The record of port A's READ in slot 0. -/
def readRecord : OpRecord := record (.queue .A 0) (.slot .read) { first := 0, length := 16 } (some 0)

/-- The record of a fill of port B. -/
def fillRecord : OpRecord := { record (.fill .B) .fill { first := 0, length := 16 } none with generation := some 0 }

/-- The sequencer in a state with an operation on the device. -/
def onDevice (q : SeqState) (r : OpRecord) (line : Line) (s : State) : State :=
  s.modSeq fun x => { x with state := q, active := some r, line := line }

/-- Port A's READ on the line. -/
def reading : State :=
  onDevice .reading readRecord (.onLine .read 8) ((withSlot .A (.active readOp) 1 ready).setHolder 0 (.lentSlot .A 0))

/-- Port A's erase in a sequencer state. -/
def erasing (q : SeqState) (line : Line) : State := onDevice q eraseRecord line (withSlot .A (.active eraseOp) 1 ready)

/-- Port B's aperture OPEN at 0, waiting for its first bytes. -/
def opened (s : State) : State := s.modAperture .B fun a => { a with state := .opened }

/-- Port B's aperture with its fill in flight. -/
def filling (s : State) : State := (opened s).modAperture .B fun a => { a with inFlight := true }

/-- The end of port B's fill of 16 bytes. -/
def fillEnd : Instr := .fillTransactionEnd (List.replicate 16 7)

/-- Port A's erase parked beside a fill of port B on the line, the dwell timer running, and the end of the fill to be taken next. -/
def parked : State :=
  { (onDevice .reading fillRecord (.onLine .read 8) (filling (withSlot .A (.active eraseOp) 1 ready))).modSeq fun q =>
      { q with suspended := some { op := { eraseRecord with suspends := 1 }, dwell := 0 }, dwellTimer := some 64000 } with
    pending := [fillEnd] }


/-- The state after a command. -/
def after (i : Instr) (s : State) : State :=
  match exec i s with
  | .next t => t
  | .fault _ | .refused _ => s

/-- `parked` after its fill has ended. -/
def unparked : State := after fillEnd { parked with pending := [] }

/-- `parked` with a read of port B stalled. -/
def stalling (timer : Timer) : State :=
  { parked with pending := [] }.modAperture .B fun a => { a with stalled := true, stallTimer := timer }

/-- A state with a field of port A replaced. -/
def setA (f : PortState → PortState) : State := ready.modPort .A f

/-- Port A HELD for 200 ms, with some cycles left. -/
def holding (left : Nat) : State := ((ready.setHold .A .held).setDuration 200).setHoldTimer (some left)

/-! ### WellFormed refuses the ill-formed -/

theorem test_code_of_a_command_is_no_undefined_command : wellFormed (.undefinedCommand .A 0x01) = false := by decide
theorem test_write_with_its_own_row_is_no_register_write : wellFormed (.registerWrite .A 0x0D 1) = false := by decide
theorem test_read_of_no_byte_is_ill_formed : wellFormed (.readTransactionEnd []) = false := by decide
theorem test_verify_of_no_byte_is_ill_formed : wellFormed (.verifyEnd []) = false := by decide
theorem test_read_of_257_bytes_is_ill_formed : wellFormed (.readTransactionEnd (List.replicate 257 0)) = false := by decide +kernel
theorem test_fill_of_17_bytes_is_ill_formed : wellFormed (.fillTransactionEnd (List.replicate 17 0)) = false := by decide
theorem test_fill_of_16_bytes_is_well_formed : wellFormed (.fillTransactionEnd (List.replicate 16 0)) = true := by decide

/-! ### Bus writes, from the command code table (R177) and the window map -/

theorem test_decode_post : decodeWrite .A 0x02 0x01 = .post .A := by decide
theorem test_decode_release : decodeWrite .B 0x02 0x11 = .release .B := by decide
theorem test_decode_close : decodeWrite .A 0x02 0x21 = .closeAperture .A := by decide
theorem test_decode_hold_renew : decodeWrite .B 0x02 0x31 = .holdRenew .B := by decide
theorem test_decode_commit_profile : decodeWrite .A 0x02 0x42 = .commitProfile .A := by decide
theorem test_decode_recover : decodeWrite .B 0x02 0x50 = .recover .B := by decide
theorem test_decode_clear_counters : decodeWrite .A 0x02 0x60 = .clearCounters .A := by decide
theorem test_decode_soft_reset : decodeWrite .A 0x02 0x7F = .softReset .A := by decide
theorem test_decode_undefined : decodeWrite .A 0x02 0x07 = .undefinedCommand .A 0x07 := by decide
theorem test_decode_qmode : decodeWrite .B 0x0D 1 = .qmodeWrite .B 1 := by decide
theorem test_decode_evflags_high : decodeWrite .A 0x2D 1 = .evflagsWrite .A true 1 := by decide
theorem test_decode_cfgdata : decodeWrite .A 0x3D 5 = .cfgdataWrite .A 5 := by decide
theorem test_decode_apdata_read : decodeRead .B 0x23 = some (.apdataRead .B) := by decide
theorem test_no_row_gives_bits : decodeTableWord 8 1 = none := rfl

/-! ### What the window shows (window map and field encodings) -/

theorem test_id_and_revision : State.reset.windowByte .A 0x00 = 0x2A ∧ State.reset.windowByte .B 0x01 = 0x01 := by decide +kernel
theorem test_seqstat_of_a_parked_erase : parked.windowByte .B 0x05 = 0x13 := by decide +kernel
theorem test_pstat_shows_running_and_authority : (reading.windowByte .A 0x04, reading.windowByte .B 0x04) = (0x41, 0x00) := by
  decide +kernel
theorem test_defaults_view_after_reset : State.reset.cfgByte 0x78 = 1 ∧ State.reset.cfgByte 0x5B = 8 := by decide +kernel

/-! ### One step of each family -/

theorem test_step_takes_the_front_command :
    step { ready with pending := [.claim .A, .stop .B] } = exec (.claim .A) { ready with pending := [.stop .B] } := rfl
theorem test_idle_step_queues_the_start_of_a_transaction :
    (match step (erasing .writing (.called .writeEnable)) with
      | .next t => t.pending
      | .fault _ | .refused _ => []) = [.lineTransactionStart] := by decide +kernel
theorem test_post_before_the_first_commit : (after (.post .A) State.reset |>.port .A).result = .refusedState := by decide +kernel
theorem test_post_of_kind_zero : (after (.post .A) ready |>.port .A).result = .refusedInvalid := by decide +kernel
theorem test_retire_of_an_empty_ring : (after (.retire .A) ready |>.port .A).result = .refusedEmpty := by decide +kernel
theorem test_start_grants_the_head :
    (after (.start .A) ((withSlot .A (.queued eraseOp) 0 ready).modQueue .A fun q => { q with state := .stopped })).seq.state
      = .writing := by decide +kernel
theorem test_stop_with_an_active_slot : (after (.stop .A) reading |>.queue .A).state = .stopping := by decide +kernel
theorem test_resume_of_a_running_queue : (after (.resume .A) reading |>.port .A).result = .refusedState := by decide +kernel
theorem test_flush_of_a_running_queue : (after (.flush .A) reading |>.port .A).result = .refusedState := by decide +kernel
theorem test_qmode_is_taken_while_stopped : (after (.qmodeWrite .A 0xFF) ready |>.queue .A).haltOnError = true := by decide +kernel
theorem test_claim_skips_a_lent_buffer : (after (.claim .B) reading |>.port .B).bufSel = 1 := by decide +kernel
theorem test_claim_fills_with_ff : (after (.claim .B) ready).bufferByte 0 255 = 0xFF := by decide +kernel
theorem test_release_of_a_lent_buffer : (after (.release .A) reading |>.port .A).result = .refusedOwner := by decide +kernel
theorem test_bufdata_read_of_a_free_buffer :
    ((after (.bufdataRead .A) ready |>.port .A).dataOut, (after (.bufdataRead .A) ready |>.port .A).result)
      = (some 0, .refusedOwner) := by decide +kernel
theorem test_bufofs_wraps :
    (after (.bufdataWrite .A 7) ((after (.claim .A) ready).modPort .A fun x => { x with bufOfs := 255 }) |>.port .A).bufOfs = 0 := by
  decide +kernel
theorem test_open_grants_a_fill_of_16 :
    (after (.openAperture .A) ready).seq.active.map OpRecord.range = some { first := 0, length := 16 } := by decide +kernel
theorem test_close_advances_the_generation : (after (.closeAperture .A) ready |>.aperture .A).generation = 1 := by decide +kernel
theorem test_apdata_read_stalls : (after (.apdataRead .B) parked |>.aperture .B).stallTimer = some 3200 := by decide +kernel
theorem test_abandoned_read_drives_nothing : (after (.readAbandon .B) (after (.apdataRead .B) parked) |>.port .B).dataOut = none := by
  decide +kernel
theorem test_stall_expiry_cause :
    (after (.stallTimerExpiry .B) (stalling (some 0)) |>.events .B).apCause = .stallExpired := by decide +kernel
theorem test_fill_stops_the_stall_timer :
    (after (.stallTimerExpiry .B) (after fillEnd (stalling (some 0))) |>.port .B).dataOut = some 7 := by decide +kernel
theorem test_hold_request_waits_for_the_peer :
    (after (.holdRequest .B) ((erasing .busyWait (.called .poll)).modPort .B fun x => { x with holdTime := 1 })).holdOf .B
      = .pending := by decide +kernel
theorem test_hold_request_is_held_at_once :
    (after (.holdRequest .A) (ready.modPort .A fun x => { x with holdTime := 150 })).hold.timer = some (150 * 1000 * 32) := by
  decide +kernel
theorem test_hold_renew_needs_a_hold : (after (.holdRenew .A) ready |>.port .A).result = .refusedState := by decide +kernel
theorem test_renewal_taken_before_the_expiry : (after .holdTimerExpiry (after (.holdRenew .A) (holding 0))).holdOf .A = .held := by
  decide +kernel
theorem test_holdrem_of_a_hold_that_is_up : ((holding 0).windowByte .A 0x29, (holding 32001).windowByte .A 0x29) = (1, 2) := by
  decide +kernel
theorem test_claim_authority_of_the_peer : (after (.claimAuthority .B) ready |>.port .B).result = .refusedBusy := by decide +kernel
theorem test_commit_profile_starts_initialization :
    ((after (.commitProfile .A) ready).seq.state, (after (.commitProfile .A) ready).seq.line)
      = (.initializing, .called .resetEnable) := by decide +kernel
theorem test_commit_profile_while_reading : (after (.commitProfile .A) reading |>.port .A).result = .refusedBusy := by
  decide +kernel
theorem test_commit_defaults_takes_three_bits : (after (.commitDefaults .A) ready).regions.defaults.rightsA = 0 := by decide +kernel
theorem test_cfgdata_write_needs_the_authority :
    ((after (.cfgdataWrite .B 9) ready |>.port .B).result, (after (.cfgdataWrite .B 9) ready |>.port .B).cfgIdx)
      = (.refusedAuthority, 1) := by decide +kernel
theorem test_evflags_write_clears : ((after (.evflagsWrite .A false 0x01) (ready.raise .A .done)).events .A).flags = 0 := by
  decide +kernel
theorem test_expiry_of_a_timer_started_again :
    (after (.holdoffTimerExpiry .A) (setA fun x => { x with events := { x.events with holdoffTimer := some 320, pendingCount := 1 } })
      |>.events .A).has .done = false := by decide +kernel
theorem test_clear_global_counters_needs_the_authority :
    (after (.clearGlobalCounters .B) ready |>.port .B).result = .refusedAuthority := by decide +kernel
theorem test_undefined_command : (after (.undefinedCommand .A 0x07) ready |>.port .A).result = .refusedInvalid := by decide +kernel
theorem test_stall_limit_zero_is_not_taken : (after (.registerWrite .A 0x25 0) ready |>.aperture .A).limit = 100 := by decide +kernel
theorem test_recover_outside_fault : (after (.recover .A) ready |>.port .A).result = .refusedState := by decide +kernel

/-! The timing at 8 MHz: an opcode 1 µs, a status read 2 µs, a 16-byte read 20 µs (flash sequencer chapter, R28). -/

theorem test_opcode_lasts_one_microsecond :
    (after .lineTransactionStart (erasing .writing (.called .writeEnable))).seq.line = .onLine .writeEnable 32 := by decide +kernel
theorem test_status_read_lasts_two_microseconds :
    (after .lineTransactionStart (erasing .busyWait (.called .poll))).seq.line = .onLine .poll 64 := by decide +kernel
theorem test_read_of_16_bytes_lasts_20_microseconds :
    (after .lineTransactionStart (onDevice .reading readRecord (.called .read) ready)).seq.line = .onLine .read 640 := by
  decide +kernel
theorem test_write_enable_is_checked :
    (after .writeEnableEnd (erasing .writing (.onLine .writeEnable 0))).seq.line = .called .writeEnableCheck := by decide +kernel
theorem test_latch_not_set :
    (after (.writeEnableCheck 0x00) (erasing .writing (.onLine .writeEnableCheck 0)) |>.queue .A).slots[0]
      = .done eraseOp { status := .notEnabled, detail := 0, suspends := 0 } := by decide +kernel
theorem test_command_end_starts_the_poll_timer :
    (after .commandTransactionEnd (erasing .writing (.onLine .command 0))).seq.pollTimer = some (1000 * 32) := by decide +kernel
theorem test_poll_reports_the_flash_error :
    (after (.pollEnd 0x20) (erasing .busyWait (.onLine .poll 0)) |>.queue .A).slots[0]
      = .done eraseOp { status := .flashFail, detail := 0x20, suspends := 0 } := by decide +kernel
theorem test_handshake_confirms :
    ((after (.handshakeReadEnd 0x80) (erasing .suspending (.onLine .handshake 0))).counters.suspCnt,
      (after (.handshakeReadEnd 0x80) (erasing .suspending (.onLine .handshake 0))).seq.state) = (1, .resuming) := by
  decide +kernel
theorem test_fill_end_grants_the_resume :
    (unparked).seq.state = .resuming := by decide +kernel
theorem test_read_end_hands_the_buffer_back :
    ((after (.readTransactionEnd (List.replicate 16 7)) reading).holder 0,
      (after (.readTransactionEnd (List.replicate 16 7)) reading).bufferByte 0 15,
      (after (.readTransactionEnd (List.replicate 16 7)) reading).bufferByte 0 16) = (.port .A, 7, 0) := by decide +kernel
theorem test_initialization_fails :
    ((after (.initializationEnd 1) (ready.modSeq fun q => { q with state := .initializing, line := .onLine .finalRead 0 })).seq.state,
      (after (.initializationEnd 1) (ready.modSeq fun q =>
        { q with state := .initializing, line := .onLine .finalRead 0 })).counters.recFail) = (.fault, 1) := by decide +kernel
theorem test_soft_reset_leaves_an_orphan :
    ((after (.softReset .A) reading).holder 0, (after (.softReset .A) reading).seq.active.map OpRecord.orphan,
      (after (.softReset .A) reading |>.events .B).has .peerReset) = (.lentOrphan, some true, true) := by decide +kernel
theorem test_second_low_level_is_not_recognised :
    (after (.prstRecognised .A) (after (.prstRecognised .A) reading) |>.aperture .A).generation = 1 := by decide +kernel
theorem test_power_on_reset_ends_with_a_low_pin :
    ((after (.powerOnResetEnd true false) (after .powerOnReset reading)).ports.a.inReset,
      (after (.powerOnResetEnd true false) (after .powerOnReset reading)).ports.b.inReset) = (true, false) := by decide +kernel

/-! ### Witnesses: a state and operands that meet the hypotheses of each obligation, clause by clause -/

theorem not_done {x : Slot} (h : x.isDone = false) : ∀ op c, x ≠ .done op c := by
  rintro op c rfl
  cases h

theorem not_active {x : Slot} (h : x.isActive = false) : ∀ op, x ≠ .active op := by
  rintro op rfl
  cases h

/-- Every slot of port A QUEUED. -/
def full : State := setA fun x => { x with queue := { x.queue with slots := Vector.replicate 8 (.queued eraseOp) } }

/-- Port A's composer legal, with buffer 15 held: a READ of one byte at the last address. -/
def composed : State :=
  (setA fun x => { x with queue := { x.queue with composer := { kind := 1, tag := 7, addr := 0x3FFFFF, len := 1, buf := 15 } } }).setHolder
    15 (.port .A)

/-- Port A's queue in a state. -/
def queueIn (q : QueueState) : State := setA fun x => { x with queue := { x.queue with state := q } }

/-- Port A's aperture in a state. -/
def apertureIn (a : Aperture → Aperture) : State := ready.modAperture .A a

theorem witness_IdleStepPassesOneCycle :
    State.reset.pending = [] ∧ (∀ u, State.reset.seq.line = .called u → State.reset.seq.gap ≠ 0)
      ∧ (State.reset.callLine .poll).pending = [] ∧ (State.reset.callLine .poll).seq.line = .called .poll
      ∧ (State.reset.callLine .poll).seq.gap = 0 :=
  ⟨rfl, fun u h => (by cases h), rfl, rfl, rfl⟩
theorem witness_BusWritesDecodeToTheirRow :
    wellFormed (.undefinedCommand .A 0x07) = true ∧ busWriteOf (.undefinedCommand .A 0x07) = some (.A, 0x02, 0x07)
      ∧ wellFormed (.registerWrite .B 0x3F 1) = true ∧ busWriteOf (.registerWrite .B 0x3F 1) = some (.B, 0x3F, 1) := by decide
theorem witness_BusWritesRunAsTheirRow :
    ready.accessTaken .A = true ∧ CommandName.ofCode 0x00 = none ∧ CommandName.ofCode 0x07 = none
      ∧ CommandName.ofCode 0x7E = none ∧ CommandName.ofCode 0x80 = none ∧ CommandName.ofCode 0xFF = none := by decide +kernel
theorem witness_AccessesNotTakenChangeNothing :
    accessPort (.post .A) = some .A ∧ { ready with powerOnReset := true }.powerOnReset = true
      ∧ ((setA fun x => { x with inReset := true }).port .A).inReset = true
      ∧ ((apertureIn fun a => { a with stalled := true }).aperture .A).stalled = true := by decide +kernel
theorem witness_PlainWritesAreStored :
    ready.accessTaken .A = true ∧ (1#8 ≠ 0 ∧ 255#8 ≠ 0) ∧ (0#8 = 0) ∧ (1 ≤ (1#8).toNat ∧ (1#8).toNat ≤ 8)
      ∧ (1 ≤ (8#8).toNat ∧ (8#8).toNat ≤ 8) ∧ (0#8).toNat = 0 ∧ 9 ≤ (9#8).toNat ∧ (0x3F#6).toNat = 0x3F := by decide +kernel
theorem witness_WindowShowsTheState_written :
    ready.accessTaken .B = true ∧ (0x06#6).toNat = 0x06 ∧ (0x3C#6).toNat = 0x3C ∧ 0x1A#6 ≠ 0x06 ∧ 0x1A#6 ≠ 0x3C ∧ 0x3D#6 ≠ 0x18
      ∧ (composed.accessTaken .A = true ∧ (15#8).toNat = (15 : Fin 16).val ∧ composed.holder 15 = .port .A)
      ∧ (∀ b : Fin 16, (16#8).toNat = b.val → ready.holder b ≠ .port .B)
      ∧ (let s := composed.modPort .A fun x => { x with bufSel := 15 }
         s.accessTaken .A = true ∧ (s.port .A).bufSel.toNat = (15 : Fin 16).val ∧ s.holder 15 = .port .A) := by decide +kernel
theorem witness_WindowShowsTheState :
    (withSlot .A (.done eraseOp { status := .ok, detail := 0, suspends := 15 }) 1 ready |>.queue .A).slots[(0 : Fin 8)]
        = .done eraseOp { status := .ok, detail := 0, suspends := 15 }
      ∧ (ready.queue .A).slots[(0 : Fin 8)].isDone = false ∧ (ready.aperture .A).fifo.length ≤ 16
      ∧ ready.holdOf .A = .none ∧ (ready.setHold .A .pending).holdOf .A = .pending
      ∧ ((holding 0).holdOf .A = .held ∧ (holding 0).hold.timer = some 0)
      ∧ ((holding 1).holdOf .A = .held ∧ (holding 1).hold.timer = some 1 ∧ (1 - 1) * 32000 < 1 ∧ 1 ≤ 1 * 32000)
      ∧ (255 - 1) * 32000 < 255 * 32000 := by decide +kernel
theorem witness_ComposerLegality :
    sampleProfile.valid = true ∧ sampleProfile.capacity = 0x400000
      ∧ ({ kind := 3, tag := 0, addr := 0x3FFF00, len := 0, buf := 15 } : Composer).operation 0x400000
          = some { kind := .program, tag := 0, addr := 0x3FFF00, transfer := some { length := 256, buffer := 15 } }
      ∧ ({ kind := 5, tag := 0, addr := 0x3F0000, len := 0, buf := 99 } : Composer).operation 0x400000
          = some { kind := .eraseBlock, tag := 0, addr := 0x3F0000, transfer := none }
      ∧ ({ kind := 1, tag := 0, addr := 0x3FFFFF, len := 2, buf := 0 } : Composer).operation 0x400000 = none := by decide +kernel
theorem witness_PostRefusalsInOrder :
    State.reset.accessTaken .A = true ∧ State.reset.profile.committed = none
      ∧ full.accessTaken .A = true ∧ full.profile.committed = some sampleProfile ∧ (∀ n : Fin 8, (full.queue .A).slots[n] ≠ .free)
      ∧ ready.accessTaken .A = true ∧ ready.profile.committed = some sampleProfile ∧ (ready.queue .A).slots[(0 : Fin 8)] = .free
      ∧ (ready.queue .A).composer.operation sampleProfile.capacity = none
      ∧ (composed.setHolder 15 .free).accessTaken .A = true
      ∧ ((composed.setHolder 15 .free).queue .A).composer.operation sampleProfile.capacity
          = some { kind := .read, tag := 7, addr := 0x3FFFFF, transfer := some { length := 1, buffer := 15 } }
      ∧ (composed.setHolder 15 .free).holder 15 ≠ .port .A := by decide +kernel
theorem witness_PostFillsTheSlot :
    composed.accessTaken .A = true ∧ composed.profile.committed = some sampleProfile ∧ (composed.queue .A).slots[(0 : Fin 8)] = .free
      ∧ (composed.queue .A).composer.operation sampleProfile.capacity
          = some { kind := .read, tag := 7, addr := 0x3FFFFF, transfer := some { length := 1, buffer := 15 } }
      ∧ composed.holder 15 = .port .A
      ∧ ({ kind := 4, tag := 0, addr := 0x3FF000, len := 0, buf := 16 } : Composer).operation sampleProfile.capacity
          = some { kind := .eraseSector, tag := 0, addr := 0x3FF000, transfer := none } := by decide +kernel
theorem witness_RetireFreesTheOldestDone :
    ready.accessTaken .A = true ∧ (withSlot .A (.done eraseOp { status := .ok, detail := 0, suspends := 15 }) 1 ready |>.queue .A).slots[(0 : Fin 8)]
        = .done eraseOp { status := .ok, detail := 0, suspends := 15 }
      ∧ (withSlot .A (.done eraseOp { status := .ok, detail := 0, suspends := 15 }) 1 ready).accessTaken .A = true
      ∧ ∀ op c, (ready.queue .A).slots[(ready.queue .A).retire] ≠ .done op c :=
  ⟨by decide +kernel, by decide +kernel, by decide +kernel, not_done (by decide +kernel)⟩
theorem witness_QueueCommandTable :
    ((queueIn .stopped).accessTaken .A = true ∧ ((queueIn .stopped).queue .A).state = .stopped)
      ∧ ((queueIn .stopping).accessTaken .A = true ∧ ((queueIn .stopping).queue .A).state = .stopping)
      ∧ ((queueIn .halted).accessTaken .A = true ∧ ((queueIn .halted).queue .A).state = .halted)
      ∧ (reading.accessTaken .A = true ∧ (reading.queue .A).state = .running ∧ (reading.queue .A).slots[(0 : Fin 8)] = .active readOp)
      ∧ ((queueIn .running).accessTaken .A = true ∧ ((queueIn .running).queue .A).state = .running
          ∧ ∀ (n : Fin 8) op, ((queueIn .running).queue .A).slots[n] ≠ .active op) := by
  refine ⟨by decide +kernel, by decide +kernel, by decide +kernel, by decide +kernel, by decide +kernel, by decide +kernel, fun n => ?_⟩
  exact not_active (by revert n; decide +kernel)
theorem witness_FlushCompletesTheQueuedSlots :
    (ready.accessTaken .A = true ∧ (ready.queue .A).state = .stopped ∧ ∀ n : Fin 8, (ready.queue .A).slots[n].isQueued = false)
      ∧ (full.accessTaken .A = true ∧ (full.queue .A).state = .stopped ∧ (full.queue .A).slots[(7 : Fin 8)].isQueued = true)
      ∧ (reading.accessTaken .A = true ∧ (reading.queue .A).state = .running) := by decide +kernel
theorem witness_HaltModeIsFixedOutsideStopped :
    ready.accessTaken .A = true ∧ (ready.queue .A).state = .stopped ∧ wellFormed (.qmodeWrite .A 1) = true
      ∧ exec (.qmodeWrite .A 1) ready = .next (after (.qmodeWrite .A 1) ready)
      ∧ ((after (.qmodeWrite .A 1) ready).queue .A).haltOnError ≠ (ready.queue .A).haltOnError
      ∧ (reading.accessTaken .A = true ∧ (reading.queue .A).state ≠ .stopped)
      ∧ ready.powerOnReset = false ∧ (ready.port .A).inReset = false :=
  ⟨by decide +kernel, by decide +kernel, by decide, rfl, by decide +kernel, by decide +kernel, by decide, by decide⟩
theorem witness_ClaimTakesTheLowestFreeBuffer :
    (State.reset.accessTaken .A = true ∧ State.reset.profile.committed = none)
      ∧ ready.profile.committed = some sampleProfile
      ∧ (ready.accessTaken .A = true ∧ ready.charge .A < ready.quota .A ∧ ready.holder 0 = .free ∧ ∀ c, c < 0 → ready.holder c ≠ .free)
      ∧ (let s := { ready with pool := { ready.pool with holders := Vector.replicate 16 (.port .A) } }
         s.accessTaken .A = true ∧ s.quota .A ≤ s.charge .A
         ∧ s.accessTaken .B = true ∧ s.charge .B < s.quota .B ∧ ∀ b, s.holder b ≠ .free) := by decide +kernel
theorem witness_ReleaseFreesTheBuffer :
    (let s := setA fun x => { x with bufSel := 16 }
     s.accessTaken .A = true ∧ 16 ≤ (s.port .A).bufSel.toNat)
      ∧ (let s := composed.modPort .A fun x => { x with bufSel := 15 }
         s.accessTaken .A = true ∧ (s.port .A).bufSel.toNat = 15 ∧ s.holder 15 = .port .A)
      ∧ (ready.accessTaken .A = true ∧ (ready.port .A).bufSel.toNat = 0 ∧ ready.holder 0 ≠ .port .A) := by decide +kernel
theorem witness_BufferWindowReachesHeldBuffers :
    (let s := composed.modPort .A fun x => { x with bufSel := 15, bufOfs := 255 }
     s.accessTaken .A = true ∧ (s.port .A).bufSel.toNat = 15 ∧ s.holder 15 = .port .A)
      ∧ (let s := setA fun x => { x with bufSel := 16 }
         s.accessTaken .A = true ∧ ∀ b : Fin 16, (s.port .A).bufSel.toNat = b.val → s.holder b ≠ .port .A) := by decide +kernel
theorem witness_OpenAndCloseRestartTheStream :
    (State.reset.accessTaken .A = true ∧ State.reset.profile.committed = none)
      ∧ (let s := apertureIn fun a => { a with apaddr := 0x400000 }
         s.accessTaken .A = true ∧ s.profile.committed = some sampleProfile ∧ sampleProfile.capacity ≤ (s.aperture .A).apaddr.toNat)
      ∧ (let s := apertureIn fun a => { a with apaddr := 0x3FFFFF }
         s.accessTaken .A = true ∧ s.profile.committed = some sampleProfile ∧ (s.aperture .A).apaddr.toNat < sampleProfile.capacity) := by
  decide +kernel
theorem witness_ApertureReadOutcomes :
    (let s := apertureIn fun a => { a with state := .opened, fifo := [5], fetch := 1 }
     s.accessTaken .A = true ∧ (s.aperture .A).fifo = [5])
      ∧ (ready.accessTaken .A = true ∧ (ready.aperture .A).fifo = [] ∧ (ready.aperture .A).state = .closed)
      ∧ ((apertureIn fun a => { a with state := .denied }).aperture .A).state = .denied
      ∧ ((apertureIn fun a => { a with state := .ended }).aperture .A).state = .ended
      ∧ (let s := apertureIn fun a => { a with state := .opened, policy := .noStall }
         s.accessTaken .A = true ∧ (s.aperture .A).fifo = [] ∧ (s.aperture .A).state = .opened ∧ (s.aperture .A).policy = .noStall)
      ∧ (let s := apertureIn fun a => { a with state := .opened }
         s.accessTaken .A = true ∧ (s.aperture .A).fifo = [] ∧ (s.aperture .A).state = .opened ∧ (s.aperture .A).policy = .stall) := by
  decide +kernel
theorem witness_StallsEndWithTheirByte :
    (((stalling (some 0)).aperture .B).stalled = true ∧ ((stalling (some 0)).aperture .B).stallTimer = some 0)
      ∧ ((stalling (some 1)).aperture .B).stallTimer ≠ some 0
      ∧ (ready.aperture .A).stalled = false ∧ (ready.aperture .A).stallTimer ≠ some 0 := by decide +kernel
theorem witness_HoldRequestOutcomes :
    (State.reset.accessTaken .A = true ∧ State.reset.profile.committed = none)
      ∧ ((holding 1).accessTaken .A = true ∧ (holding 1).profile.committed = some sampleProfile ∧ (holding 1).holdOf .A ≠ .none)
      ∧ (ready.accessTaken .A = true ∧ ready.holdOf .A = .none ∧ (ready.port .A).holdTime = 0)
      ∧ (let s := setA fun x => { x with holdTime := 201 }
         s.accessTaken .A = true ∧ s.holdOf .A = .none ∧ sampleProfile.num .maxHold < (s.port .A).holdTime.toNat)
      ∧ (let s := (setA fun x => { x with holdTime := 200 }).setHold .B .pending
         s.accessTaken .A = true ∧ s.holdOf .A = .none ∧ (s.port .A).holdTime ≠ 0
         ∧ (s.port .A).holdTime.toNat ≤ sampleProfile.num .maxHold ∧ s.holdOf .B ≠ .none)
      ∧ (let s := reading.modPort .B fun x => { x with holdTime := 1 }
         s.accessTaken .B = true ∧ s.holdOf .B = .none ∧ s.holdOf .A = .none ∧ (s.port .B).holdTime ≠ 0
         ∧ (s.port .B).holdTime.toNat ≤ sampleProfile.num .maxHold ∧ s.seq.active = some readRecord ∧ readRecord.source.port = .A)
      ∧ (let s := setA fun x => { x with holdTime := 200 }
         s.accessTaken .A = true ∧ s.seq.active = none ∧ s.seq.suspended = none) := by decide +kernel
theorem witness_HoldRenewReleaseExpiry :
    (let s := holding 0
     s.accessTaken .A = true ∧ s.holdOf .A = .held ∧ s.holdOf .B = .none ∧ s.hold.timer = some 0)
      ∧ (holding 1).hold.timer ≠ some 0
      ∧ (ready.accessTaken .A = true ∧ ready.holdOf .A = .none ∧ ready.hold.timer ≠ some 0) := by decide +kernel
theorem witness_AuthorityHasOneHolder :
    (State.reset.accessTaken .A = true ∧ State.reset.accessTaken .B = true ∧ State.reset.profile.authority = none)
      ∧ exec (.claimAuthority .A) State.reset = .next (after (.claimAuthority .A) State.reset)
      ∧ (ready.accessTaken .A = true ∧ ready.profile.authority = some .A ∧ ready.accessTaken .B = true)
      ∧ (State.reset.profile.staging = Vector.replicate 29 0 ∧ State.reset.regions.staging = Vector.replicate 8 0)
      ∧ exec (.stop .A) State.reset = .next (after (.stop .A) State.reset)
      ∧ (after (.stop .A) State.reset).profile.authority = none :=
  ⟨by decide +kernel, rfl, by decide +kernel, by decide +kernel, rfl, by decide +kernel⟩
theorem witness_AuthorityReleaseClearsStaging :
    ready.accessTaken .A = true ∧ ready.profile.authority = some .A ∧ ready.accessTaken .B = true
      ∧ ready.profile.authority ≠ some .B := by decide +kernel
theorem witness_ProfileCommitOutcomes :
    (ready.accessTaken .B = true ∧ ready.profile.authority ≠ some .B)
      ∧ (reading.accessTaken .A = true ∧ reading.profile.authority = some .A ∧ reading.seq.state = .reading)
      ∧ (ready.accessTaken .A = true ∧ ready.profile.authority = some .A ∧ ready.seq.state = .idle ∧ ready.seq.suspended = none
          ∧ (∀ n : Fin 8, (ready.queue .A).slots[n].waiting = none) ∧ (∀ n : Fin 8, (ready.queue .B).slots[n].waiting = none)
          ∧ ready.profile.staging.valid = true)
      ∧ (Profile.valid (Vector.replicate 29 0) = false) := by decide +kernel

/-- The region staging record of a table. -/
def staged (v : Vector Byte 8) : State := { ready with regions := { ready.regions with staging := v } }

theorem witness_RegionCommitOutcomes :
    (ready.accessTaken .B = true ∧ ready.profile.authority ≠ some .B)
      ∧ (ready.accessTaken .A = true ∧ ready.profile.authority = some .A)
      ∧ 15 < ((staged #v[16, 1, 0, 0, 0, 0, 0, 0]).regions.staging[0]).toNat
      ∧ (let x := (staged #v[15, 1, 0xFF, 0x0F, 0xFF, 0x0F, 7, 7]).regions
         x.staging[0].toNat = 15 ∧ (x.staging[3] ++ x.staging[2] : BitVec 16).toNat = 4095
         ∧ (x.staging[5] ++ x.staging[4] : BitVec 16).toNat = 4095 ∧ x.entries[(15 : Fin 16)].locked = false)
      ∧ (let x := { RegionTable.reset with entries := Vector.replicate 16 { RegionEntry.reset with locked := true }
                                           defaults := { rightsA := 1, rightsB := 1, locked := true } }
         x.entries[(0 : Fin 16)].locked = true ∧ x.defaults.locked = true)
      ∧ ready.regions.defaults.locked = false := by decide +kernel
theorem witness_ConfigurationWindow :
    (ready.accessTaken .A = true ∧ ready.profile.authority = some .A)
      ∧ (ready.accessTaken .B = true ∧ ready.profile.authority ≠ some .B ∧ (ready.port .B).cfgIdx.toNat ≤ 0x1C)
      ∧ (let s := setA fun x => { x with cfgIdx := 0x2B }
         s.accessTaken .A = true ∧ ¬ ((s.port .A).cfgIdx.toNat ≤ 0x1C ∨ (0x20 ≤ (s.port .A).cfgIdx.toNat ∧ (s.port .A).cfgIdx.toNat ≤ 0x2A)))
      ∧ (0x1C#8).toNat = (28 : Fin 29).val ∧ (0x27#8).toNat = 0x20 + (7 : Fin 8).val ∧ (0x2A#8).toNat = 0x28 + (2 : Fin 3).val
      ∧ (0x5C#8).toNat = 0x40 + (28 : Fin 29).val ∧ (0xFF#8).toNat = 0x80 + 8 * (15 : Fin 16).val + 7
      ∧ (0x80#8).toNat = 0x80 + 8 * (0 : Fin 16).val + 0 ∧ (0x1D#8).toNat = 0x1D ∧ (0x3F#8).toNat = 0x3F ∧ (0x5D#8).toNat = 0x5D
      ∧ (0x7F#8).toNat = 0x7F ∧ ready.profile.committed = some sampleProfile ∧ State.reset.profile.committed = none := by
  decide +kernel
theorem witness_EventFlagWrites :
    ready.accessTaken .A = true ∧ Flag.bufferFreed ≠ .config ∧ (0x80#8).getLsbD Flag.bufferFreed.bit = true := by decide +kernel
theorem witness_CompletionsAreCoalesced :
    (let e := EventUnit.reset
     e.holdoff = 0 ∧ e.threshold.toNat ≤ e.pendingCount + 1)
      ∧ (let e := { EventUnit.reset with threshold := 8, holdoff := 255, pendingCount := 6 }
         e.holdoff ≠ 0 ∧ e.pendingCount + 1 < e.threshold.toNat ∧ e.holdoffTimer = none)
      ∧ (let s := setA fun x => { x with events := { x.events with holdoffTimer := some 0, pendingCount := 1 } }
         (s.events .A).holdoffTimer = some 0)
      ∧ (let s := setA fun x => { x with events := { x.events with holdoffTimer := some 1, pendingCount := 1 } }
         (s.events .A).holdoffTimer ≠ some 0)
      ∧ (ready.events .A).holdoffTimer ≠ some 0 := by decide +kernel
theorem witness_CountersAreCleared :
    ready.accessTaken .A = true ∧ ready.profile.authority = some .A ∧ ready.accessTaken .B = true
      ∧ ready.profile.authority ≠ some .B := by decide +kernel
theorem witness_RecoverStartsTheResetSequence :
    (let s := ready.setSeqState .fault
     s.accessTaken .A = true ∧ s.accessTaken .B = true ∧ s.seq.state = .fault ∧ exec (.recover .A) s = .next (after (.recover .A) s))
      ∧ (ready.accessTaken .A = true ∧ ready.seq.state ≠ .fault) :=
  ⟨⟨by decide +kernel, by decide +kernel, rfl, rfl⟩, by decide +kernel⟩
theorem witness_LineTransactionsBegin :
    (erasing .writing (.called .writeEnable)).seq.line = .called .writeEnable
      ∧ (erasing .busyWait (.called .poll)).seq.line = .called .poll
      ∧ ((erasing .writing (.called .command)).seq.line = .called .command
          ∧ (erasing .writing (.called .command)).seq.active = some eraseRecord ∧ eraseRecord.kind = .slot .eraseSector)
      ∧ ((onDevice .reading readRecord (.called .read) ready).seq.line = .called .read
          ∧ (onDevice .reading readRecord (.called .read) ready).seq.active = some readRecord)
      ∧ (∀ t, reading.seq.line ≠ .called t)
      ∧ (∀ t left, ready.seq.line ≠ .onLine t left)
      ∧ (let r := record (.queue .A 0) (.slot .program) { first := 0x3FFF00, length := 256 } (some 15)
         r.kind = .slot .program ∧ r.buffer = some 15 ∧ (lineBits (erasing .writing .idle |>.sentBytes .writeEnable))[7]? = some false)
      ∧ (let s := onDevice .reading readRecord (.onLine .read (640 - (159 * 4 + 3))) ready
         3 < 2 ^ (s.prof.num .sckDivider + 1) ∧ 159 * 4 + 3 ≤ s.transactionCycles .read
         ∧ s.seq.line = .onLine .read (s.transactionCycles .read - (159 * 2 ^ (s.prof.num .sckDivider + 1) + 3))
         ∧ (lineBits (s.sentBytes .read)).length ≤ 159 ∧ (lineBits (s.sentBytes .read))[31]? = some false) :=
  ⟨by decide +kernel, by decide +kernel, by decide +kernel, by decide +kernel, fun t h => (by cases h), fun t l h => (by cases h),
    by decide +kernel, by decide +kernel⟩
theorem witness_ReadAndVerifyComplete :
    (reading.seq.state = .reading ∧ reading.seq.active = some readRecord ∧ readRecord.buffer = some 0
        ∧ reading.seq.line = .onLine .read 8 ∧ (List.replicate 16 (0 : Byte)).length = readRecord.range.length
        ∧ readRecord.kind = .slot .read)
      ∧ (let r := { readRecord with kind := .slot .verify }
         let s := onDevice .reading r (.onLine .read 0) ready
         s.seq.state = .reading ∧ s.seq.active = some r ∧ s.seq.line = .onLine .read 0 ∧ r.kind = .slot .verify
         ∧ (List.replicate 16 (1 : Byte))[0]? ≠ some (s.bufferByte 0 0)
         ∧ ∀ i : Fin 256, i.val < 16 → (List.replicate 16 (0 : Byte))[i.val]? = some (s.bufferByte 0 i)) := by decide +kernel
theorem witness_FillArrivesAtItsAperture :
    (parked.seq.state = .reading ∧ parked.seq.active = some fillRecord ∧ fillRecord.kind = .fill
        ∧ parked.seq.line = .onLine .read 8 ∧ (List.replicate 16 (0 : Byte)).length = fillRecord.range.length
        ∧ fillRecord.orphan = false ∧ { fillRecord with orphan := true }.orphan = true)
      ∧ (parked.aperture .B).state = .opened ∧ some 0 = some (parked.aperture .B).generation
      ∧ (parked.aperture .B).stalled = false ∧ (after (.apdataRead .B) parked |>.aperture .B).stalled = true
      ∧ (some 1 : Option (BitVec 16)) ≠ some (parked.aperture .B).generation := by decide +kernel
theorem witness_WriteEnableIsChecked :
    (let s := erasing .writing (.onLine .writeEnable 0)
     s.seq.state = .writing ∧ s.seq.active = some eraseRecord ∧ s.seq.line = .onLine .writeEnable 0 ∧ s.prof.field .latchBit ≠ 0xFF
     ∧ Profile.field (sampleProfile.set 13 0xFF) .latchBit = 0xFF)
      ∧ (let s := erasing .writing (.onLine .writeEnableCheck 64)
         s.seq.line = .onLine .writeEnableCheck 64 ∧ (0x02#8).getLsbD (s.prof.field .latchBit).toNat = true
         ∧ (0xFD#8).getLsbD (s.prof.field .latchBit).toNat = false) := by decide +kernel
theorem witness_BusyPhaseBeginsAndPolls :
    (let s := erasing .writing (.onLine .command 0)
     s.seq.active = some eraseRecord ∧ s.prof.num .minRun ≠ 0 ∧ s.seq.state = .writing ∧ s.seq.line = .onLine .command 0)
      ∧ (let s := erasing .resuming (.onLine .resume 0)
         s.seq.active = some eraseRecord ∧ s.seq.state = .resuming ∧ s.seq.line = .onLine .resume 0)
      ∧ (let s := (erasing .busyWait .idle).modSeq fun q => { q with pollTimer := some 5 }
         s.seq.active = some eraseRecord ∧ s.seq.state = .busyWait ∧ s.seq.pollTimer = some 5) := by decide +kernel

/-- Port A's erase with the last poll of its budget on the line: 400 ms less 2 µs have passed. -/
def lastPoll (busy : Nat) : State := onDevice .busyWait { eraseRecord with busyTime := busy } (.onLine .poll 64) ready

theorem witness_PollDecidesTheOperation :
    (let s := lastPoll (40 * 10000 * 32 - 64)
     s.seq.state = .busyWait ∧ s.seq.active = some { eraseRecord with busyTime := 40 * 10000 * 32 - 64 }
     ∧ eraseRecord.kind = .slot .eraseSector ∧ s.seq.line = .onLine .poll 64
     ∧ (0x01#8).getLsbD (s.prof.num .busyBit) = true ∧ (0xFE#8).getLsbD (s.prof.num .busyBit) = false
     ∧ 0xFE#8 &&& s.prof.field .errorMask ≠ 0 ∧ 0x9E#8 &&& s.prof.field .errorMask = 0
     ∧ s.prof.num .sectorTimeout * 10000 * 32 ≤ 40 * 10000 * 32 - 64 + 64)
      ∧ (let s := lastPoll (40 * 10000 * 32 - 65)
         40 * 10000 * 32 - 65 + 64 < s.prof.num .sectorTimeout * 10000 * 32 ∧ s.arbiter.suspendRequest = false
         ∧ { s.arbiter with suspendRequest := true }.suspendRequest = true) := by decide +kernel

/-- Port A's erase after its minimum run, beside port B's waiting fill. -/
def suspendable (pollTimer : Timer) (line : Line) : State :=
  (onDevice .busyWait { eraseRecord with runTime := 10 * 50 * 32 } line (opened (withSlot .A (.active eraseOp) 1 ready))).modSeq
    fun q => { q with pollTimer := pollTimer }

theorem witness_SuspendRequestIsRaisedAndTaken :
    (let s := suspendable none (.onLine .poll 3)
     s.arbiter.suspendRequest = false ∧ s.seq.state = .busyWait ∧ s.prof.field .suspendSupported = 1
     ∧ s.seq.active = some { eraseRecord with runTime := 10 * 50 * 32 } ∧ s.prof.num .minRun * 50 * 32 ≤ 10 * 50 * 32
     ∧ s.offers (.fill .B) = true ∧ s.seq.pollTimer = none)
      ∧ (suspendable (some 7) .idle).seq.pollTimer.isSome = true
      ∧ (let s := erasing .busyWait (.onLine .poll 3)
         s.arbiter.suspendRequest = false ∧ s.offers (.fill .A) = false ∧ s.offers (.readHead .A) = false
         ∧ s.offers (.fill .B) = false ∧ s.offers (.readHead .B) = false) := by decide +kernel
theorem witness_SuspendHandshakeAndDwell :
    (let s := erasing .suspending (.onLine .suspend 0)
     s.seq.state = .suspending ∧ s.seq.active = some eraseRecord ∧ s.seq.line = .onLine .suspend 0)
      ∧ (let s := (erasing .suspending .idle).modSeq fun q => { q with latencyTimer := some 1 }
         s.seq.state = .suspending ∧ s.seq.active = some eraseRecord ∧ s.seq.latencyTimer = some 1)
      ∧ (let s := (erasing .suspending (.onLine .handshake 0)).modSeq fun q => { q with handshakeReads := 7 }
         s.seq.line = .onLine .handshake 0 ∧ 8 ≤ s.seq.handshakeReads + 1 ∧ (0x01#8).getLsbD (s.prof.num .busyBit) = true
         ∧ (0x80#8).getLsbD (s.prof.num .busyBit) = false ∧ s.prof.field .suspendedBit ≠ 0xFF
         ∧ (0x00#8).getLsbD (s.prof.num .suspendedBit) = false ∧ (0x80#8).getLsbD (s.prof.num .suspendedBit) = true)
      ∧ ((erasing .suspending (.onLine .handshake 0)).seq.handshakeReads + 1 < 8)
      ∧ (parked.seq.dwellTimer = some 64000 ∧ parked.seq.suspended = some { op := { eraseRecord with suspends := 1 }, dwell := 0 }
          ∧ parked.seq.state ≠ .idle)
      ∧ (let s := ready.modSeq fun q =>
          { q with suspended := some { op := { eraseRecord with suspends := 1 }, dwell := 0 }, dwellTimer := some 0 }
         s.seq.dwellTimer = some 0 ∧ s.seq.state = .idle)
      ∧ ready.seq.dwellTimer = none := by decide +kernel

/-- The sequencer in the reset sequence. -/
def resetting (q : SeqState) (line : Line) (timer : Timer) : State :=
  ready.modSeq fun x => { x with state := q, line := line, recoveryTimer := timer }

theorem witness_ResetSequenceRuns :
    (let s := resetting .initializing (.onLine .resetEnable 1) none
     s.seq.state = .initializing ∧ s.seq.line = .onLine .resetEnable 1)
      ∧ (let s := resetting .recovering (.onLine .resetDevice 1) none
         s.seq.state = .recovering ∧ s.seq.line = .onLine .resetDevice 1)
      ∧ (resetting .recovering .idle (some 1)).seq.recoveryTimer = some 1
      ∧ (let s := resetting .initializing (.onLine .finalRead 1) none
         s.seq.state = .initializing ∧ s.seq.line = .onLine .finalRead 1 ∧ (0x01#8).getLsbD (s.prof.num .busyBit) = true
         ∧ (0xFE#8).getLsbD (s.prof.num .busyBit) = false)
      ∧ (resetting .recovering (.onLine .finalRead 1) none).seq.line = .onLine .finalRead 1 := by decide +kernel
theorem witness_PortReset :
    (reading.accessTaken .A = true ∧ reading.powerOnReset = false ∧ (reading.port .A).inReset = false)
      ∧ { reading with powerOnReset := true }.powerOnReset = true
      ∧ ((setA fun x => { x with inReset := true }).port .A).inReset = true
      ∧ (let s := composed.modPort .B fun x => { x with claimRefused := true }
         s.holder 15 ≠ .free ∧ (s.portReset .A).holder 15 = .free ∧ (s.port .B).claimRefused = true ∧ (s.port .B).inReset = false)
      ∧ (∀ b, ¬ (reading.holder b ≠ .free ∧ (reading.portReset .A).holder b = .free))
      ∧ ((holding 1).holdOf .A ≠ .none ∧ (holding 1).holdOf .B = .none)
      ∧ (ready.profile.authority = some .A ∧ ready.profile.authority ≠ some .B) := by decide +kernel
theorem witness_PowerOnReset : (after .powerOnReset ready).powerOnReset = true ∧ ready.powerOnReset = false := by decide +kernel
theorem witness_CompletionReachesItsOwner :
    ((reading.queue .A).slots[(0 : Fin 8)] = .active readOp ∧ readOp.buffer = some 0 ∧ eraseOp.buffer = none
        ∧ (reading.port .A).inReset = false)
      ∧ (withSlot .A (.queued eraseOp) 0 ready |>.queue .A).slots[(0 : Fin 8)] = .queued eraseOp
      ∧ (readRecord.orphan = false ∧ readRecord.source = .queue .A 0)
      ∧ ({ readRecord with orphan := true }.orphan = true ∧ readRecord.buffer = some 0 ∧ eraseRecord.buffer = none)
      ∧ ((setA fun x => { x with claimRefused := true, inReset := true }).port .A).claimRefused = true
      ∧ ((ready.setHold .B .pending).holdOf (Port.peer .A) = .pending ∧ ready.seq.active = none ∧ ready.seq.suspended = none)
      ∧ reading.holdOf (Port.peer .A) ≠ .pending := by decide +kernel

/-- Entries 2 and 5 of the table cover sector 16; entry 2 gives port A READ only. -/
def twoEntries : RegionTable :=
  { ready.regions with
    entries := ((Vector.replicate 16 RegionEntry.reset).set 5
      { valid := true, first := 0, last := 4095, rightsA := 7, rightsB := 7, locked := false }).set 2
      { valid := true, first := 16, last := 31, rightsA := 1, rightsB := 0, locked := false } }

theorem witness_LookupAndStartCheck :
    (twoEntries.entries[(2 : Fin 16)].covers 16 = true ∧ ∀ j, j < (2 : Fin 16) → twoEntries.entries[j].covers 16 = false)
      ∧ (∀ i : Fin 16, twoEntries.entries[i].covers 4096 = false)
      ∧ 1 ≤ ({ first := 0xFFFF, length := 2 } : Range).length
      ∧ hasRight (twoEntries.rightsAt .A (0x10000 / 4096)) .program ≠ true
      ∧ hasRight (twoEntries.rightsAt .A (0xFFFF / 4096)) .program = true := by decide +kernel
theorem witness_EligibilityAndFillSize :
    (let s := opened ready
     s.offers (.fill .B) = true ∧ s.seq.suspended = none)
      ∧ (let s := (opened ready).modSeq fun q =>
          { q with suspended := some { op := { eraseRecord with range := { first := 4, length := 8 } }, dwell := 0 } }
         s.offers (.fill .B) = true ∧ (s.aperture .B).fetch < 4)
      ∧ eraseOp.kind = .eraseSector ∧ { eraseOp with kind := .eraseBlock }.kind = .eraseBlock
      ∧ (readOp.kind = .read ∧ readOp.transfer = some { length := 16, buffer := 0 }) := by decide +kernel
theorem witness_GrantOrder :
    (let s := ready.modSeq fun q => { q with suspended := some { op := eraseRecord, dwell := 0 } }
     { s.arbiter with resumeDue := true }.resumeDue = true ∧ s.seq.suspended = some { op := eraseRecord, dwell := 0 })
      ∧ ready.arbiter.resumeDue = false
      ∧ (let s := (opened ready).modAperture .B fun a => { a with stalled := true }
         (s.aperture .B).stalled = true ∧ s.offers (.fill .B) = true ∧ s.arbiter.readPointer = .A
         ∧ (s.aperture .A).stalled = false ∧ s.choose = some (.fill .B))
      ∧ (let s := withSlot .B (.queued eraseOp) 0 ready
         s.offers (.writeHead .A) = false ∧ s.offers (.writeHead .B) = true ∧ s.arbiter.writePointer = .A)
      ∧ (let s := withSlot .A (.queued readOp) 0 ready
         s.offers (.fill .A) = false ∧ s.offers (.readHead .A) = true) := by decide +kernel
theorem witness_AllowedGrants :
    (let s := withSlot .A (.queued eraseOp) 0 ready
     (s.queue .A).head = some eraseOp ∧ s.startCheck .A eraseOp.kind.right eraseOp.range = none ∧ eraseOp.kind.isWrite = true)
      ∧ (let s := withSlot .A (.queued readOp) 0 ready
         (s.queue .A).head = some readOp ∧ s.startCheck .A readOp.kind.right readOp.range = none ∧ readOp.kind.isWrite = false)
      ∧ (let a := { Aperture.reset with fifo := [1], current := 0x10FFF, fetch := 0x11000 }
         a.fifo ≠ [] ∧ a.current ≤ 0x10FFF ∧ 0x10FFF < a.fetch ∧ eraseRecord.range.first ≤ 0x10FFF
         ∧ 0x10FFF < eraseRecord.range.first + eraseRecord.range.length)
      ∧ (opened ready).startCheck .B .read { first := 0, length := (opened ready).fillLength .B } = none
      ∧ parked.seq.suspended = some { op := { eraseRecord with suspends := 1 }, dwell := 0 } := by decide +kernel
theorem witness_DeniedGrants :
    (let s := withSlot .A (.queued eraseOp) 0 { ready with regions := twoEntries }
     (s.queue .A).head = some eraseOp ∧ s.startCheck .A eraseOp.kind.right eraseOp.range = some 2 ∧ eraseOp.kind.isWrite = true)
      ∧ (let s := withSlot .B (.queued readOp) 0 { ready with regions := { twoEntries with
           entries := Vector.replicate 16 .reset, defaults := { rightsA := 0, rightsB := 0, locked := true } } }
         (s.queue .B).head = some readOp ∧ s.startCheck .B readOp.kind.right readOp.range = some 16 ∧ readOp.kind.isWrite = false
         ∧ s.startCheck .B .read { first := (s.aperture .B).fetch, length := s.fillLength .B } = some 16
         ∧ (s.aperture .B).stalled = false
         ∧ ((s.modAperture .B fun a => { a with stalled := true }).aperture .B).stalled = true) := by decide +kernel
theorem witness_GrantPointEnds :
    reading.seq.state ≠ .idle ∧ ready.choose = none ∧ ready.seq.state = .idle ∧ ready.grantPoint.seq.state = .idle
      ∧ (opened ready).seq.state = .idle ∧ (opened ready).choose = some (.fill .B) := by decide +kernel

/-! Port A's erase is parked beside port B's fill in `parked`; the invariants hold there and in `holding`. -/

theorem parked_recordsFit : RecordsFit parked.seq :=
  ⟨⟨fillRecord, rfl, rfl⟩, fun _ => Or.inr rfl, by rintro x h; cases h; rfl, by rintro x r h g; cases h; cases g; decide⟩
theorem parked_lineFits : LineFits parked :=
  ⟨⟨rfl, rfl, rfl, rfl⟩, fun h => (by cases h), fun _ => ⟨rfl, rfl⟩, fun h => (by cases h), fun _ => Or.inl rfl⟩
theorem parked_holds {r : OpRecord} (h : parked.seq.holds r) : r = fillRecord ∨ r = { eraseRecord with suspends := 1 } := by
  rcases h with h | ⟨x, h, rfl⟩
  · exact Or.inl (Option.some.inj h).symm
  · cases h; exact Or.inr rfl
theorem witness_HoldStaysExclusive :
    HoldExclusive { holding 1 with pending := [.holdRenew .A] }
      ∧ step { holding 1 with pending := [.holdRenew .A] } = .next (after (.holdRenew .A) (holding 1)) :=
  ⟨⟨Or.inr rfl, by intro p h; cases p <;> decide +kernel, ⟨fun _ => ⟨.A, rfl⟩, fun _ => rfl⟩⟩, rfl⟩
theorem witness_SequencerStaysConsistent :
    RecordsFit parked.seq ∧ LineFits parked ∧ step parked = .next unparked :=
  ⟨parked_recordsFit, parked_lineFits, rfl⟩
theorem witness_SuspendCountsStayBounded :
    RecordsFit parked.seq ∧ LineFits parked ∧ SuspendsBounded parked ∧ step parked = .next unparked := by
  refine ⟨parked_recordsFit, parked_lineFits, ⟨?_, ?_, ?_, ?_⟩, rfl⟩
  · intro prof h; cases h; decide +kernel
  · intro r h; cases h; decide +kernel
  · intro x h; cases h; decide +kernel
  · intro r _ h; rcases h with h | h <;> cases h
theorem parked_queuesConsistent : QueuesConsistent parked := by
  refine ⟨?_, ?_, ?_, ?_, ?_, parked_recordsFit⟩
  · intro p
    cases p
    · refine ⟨0, 1, 0, by decide, by decide, by omega, ?_, by omega, ?_, by decide +kernel, by decide +kernel⟩
      · intro i h g; interval_cases i; decide +kernel
      · intro i h g; interval_cases i <;> decide +kernel
    · refine ⟨0, 0, 0, by decide, by decide, by omega, by omega, by omega, ?_, by decide +kernel, by decide +kernel⟩
      intro i _ g; interval_cases i <;> decide +kernel
  · intro p; cases p
    · trivial
    · exact show (parked.queue .B).hasActive = false by decide +kernel
  · intro p n
    constructor
    · intro h
      refine ⟨{ eraseRecord with suspends := 1 }, Or.inr ⟨_, rfl, rfl⟩, rfl, ?_⟩
      cases p
      · revert h; revert n; decide +kernel
      · exfalso; revert h; revert n; decide +kernel
    · rintro ⟨r, h, -, g⟩
      rcases parked_holds h with rfl | rfl
      · cases g
      · cases g; decide +kernel
  · rintro p n r x h g ⟨⟨-, i⟩, -⟩; cases h; cases i
  · intro r h
    rcases parked_holds h with rfl | rfl
    · exact ⟨fun _ => ⟨.B, rfl⟩, fun _ => rfl⟩
    · exact ⟨fun i => (by cases i), fun ⟨_, i⟩ => (by cases i)⟩
theorem witness_QueuesStayConsistent : QueuesConsistent parked ∧ step parked = .next unparked := ⟨parked_queuesConsistent, rfl⟩
theorem witness_BuffersStayConsistent :
    QueuesConsistent parked ∧ BuffersConsistent parked ∧ step parked = .next unparked := by
  have waiting : ∀ (p : Port) (n : Fin 8) (op : SlotOp), (parked.queue p).slots[n].waiting = some op → op.buffer = none := by
    intro p n op h
    have key : ∀ n : Fin 8, ((parked.queue p).slots[n].waiting.bind SlotOp.buffer) = none := by cases p <;> decide +kernel
    have := key n; rw [h] at this; exact this
  have holders : ∀ b, parked.holder b = .free := by decide +kernel
  refine ⟨parked_queuesConsistent, ⟨?_, ?_, ?_, ?_, ?_, ?_⟩, rfl⟩
  · intro p n op b h g; rw [waiting p n op h] at g; cases g
  · intro p n b h; rw [holders b] at h; cases h
  · intro b; rw [holders b]
    constructor
    · intro h; cases h
    · rintro ⟨r, h, g, -⟩; rcases parked_holds h with rfl | rfl <;> cases g
  · rintro p n r h ⟨-, g⟩
    rcases parked_holds h with rfl | rfl
    · cases g
    · cases g; exact ⟨eraseOp, by decide +kernel, rfl⟩
  · intro p r h g; rcases parked_holds h with rfl | rfl <;> rfl
  · intro r x b h _ i; cases h; cases i
theorem witness_AperturesStayConsistent :
    QueuesConsistent parked ∧ AperturesConsistent parked ∧ GenerationNotReused parked unparked ∧ step parked = .next unparked := by
  have capacity : parked.capacity = 0x400000 := by decide +kernel
  refine ⟨parked_queuesConsistent, ⟨?_, ?_, ?_, ?_, ?_, ?_, ?_⟩, ?_, rfl⟩
  · intro p
    cases p <;> exact ⟨by decide +kernel, by decide +kernel, by decide +kernel, by decide +kernel, by decide +kernel, by decide +kernel⟩
  · intro p; rw [capacity]; cases p <;> decide +kernel
  · intro p h; cases p <;> cases h
  · intro r h _; rcases parked_holds h with rfl | rfl <;> decide
  · intro p
    cases p
    · exact ⟨fun h => (by cases h), fun ⟨r, h, g, _⟩ => (by cases h; cases g)⟩
    · exact ⟨fun _ => ⟨fillRecord, rfl, rfl, rfl⟩, fun _ => rfl⟩
  · rintro p r h ⟨g, -⟩ -; cases h; cases g
    exact ⟨rfl, rfl, by decide, by rw [capacity]; decide⟩
  · intro p r a _ _ h g
    have : (parked.aperture p).fetch = 0 := by cases p <;> rfl
    omega
  · rintro p r h - ⟨g, -⟩ i; cases h; cases g; exact absurd rfl i
theorem witness_IdleLeavesNothingEligible :
    WorkConserving { ready with pending := [.openAperture .A] } ∧ ready.seq.state = .idle
      ∧ step { ready with pending := [.openAperture .A] } = .next (after (.openAperture .A) ready) :=
  ⟨fun _ => by decide +kernel, rfl, rfl⟩
theorem witness_SettingsStayInRange :
    (let s := { setA fun x => { x with events := { x.events with threshold := 8, pendingCount := 7, holdoffTimer := some 0 } } with
       pending := [.holdoffTimerExpiry .A] }
     SettingsInRange s ∧ step s = .next (after (.holdoffTimerExpiry .A) { s with pending := [] })) :=
  ⟨⟨by intro p; cases p <;> decide +kernel, by intro p; cases p <;> decide +kernel, by intro p; cases p <;> decide +kernel⟩, rfl⟩

end Sys2Proof.Tests
end

section
/-! SUPPORT. What the composer describes (R6): the operation of each kind, and when there is one. -/

namespace Sys2Proof.Machine

/-- A byte names the buffer whose number it is, and no buffer from 16 up (R87). -/
theorem bufferNamed_eq_some (v : Byte) (b : Fin 16) : bufferNamed v = some b ↔ b.val = v.toNat := by
  unfold bufferNamed
  split
  · simp [Fin.ext_iff, eq_comm]
  · next h => have := b.isLt; simp; omega

/-- A byte is the code of a kind, or names none (R3). -/
theorem Kind.ofCode_cases (v : Byte) :
    v = 1 ∨ v = 2 ∨ v = 3 ∨ v = 4 ∨ v = 5
      ∨ Kind.ofCode v = none ∧ v ≠ 1 ∧ v ≠ 2 ∧ v ≠ 3 ∧ v ≠ 4 ∧ v ≠ 5 := by
  revert v; decide

/-- The operation of a READ, VERIFY or PROGRAM composer, and when there is one (R6). -/
theorem Composer.transferOp_eq_some (c : Composer) (kind : Kind) (capacity : Nat) (op : SlotOp) :
    c.transferOp kind capacity = some op ↔
      (c.addr.toNat < capacity ∧ c.addr.toNat + lengthOf c.len ≤ capacity)
        ∧ ∃ b : Fin 16, b.val = c.buf.toNat
          ∧ op = { kind := kind, tag := c.tag, addr := c.addr.toNat,
                   transfer := some { length := lengthOf c.len, buffer := b } } := by
  unfold Composer.transferOp
  cases hb : bufferNamed c.buf with
  | none =>
    have hn : ∀ b : Fin 16, b.val ≠ c.buf.toNat := fun b h => by
      rw [(bufferNamed_eq_some c.buf b).2 h] at hb; cases hb
    simp [hn]
  | some b =>
    have hv : b.val = c.buf.toNat := (bufferNamed_eq_some c.buf b).1 hb
    simp [← hv, Fin.val_inj, eq_comm (a := op)]

/-- The operation of an erase composer, and when there is one (R6). -/
theorem Composer.eraseOp_eq_some (c : Composer) (kind : Kind) (unit capacity : Nat) (op : SlotOp) :
    c.eraseOp kind unit capacity = some op ↔
      (c.addr.toNat < capacity ∧ c.addr.toNat % unit = 0)
        ∧ op = { kind := kind, tag := c.tag, addr := c.addr.toNat, transfer := none } := by
  simp [Composer.eraseOp, eq_comm (a := op)]

theorem Composer.transferOp_isSome (c : Composer) (kind : Kind) (capacity : Nat) :
    (c.transferOp kind capacity).isSome = true ↔
      c.addr.toNat < capacity ∧ c.addr.toNat + lengthOf c.len ≤ capacity ∧ c.buf.toNat ≤ 15 := by
  simp only [Option.isSome_iff_exists, Composer.transferOp_eq_some]
  constructor
  · rintro ⟨op, ⟨hbelow, hfits⟩, b, hb, -⟩
    exact ⟨hbelow, hfits, by omega⟩
  · rintro ⟨hbelow, hfits, hbuf⟩
    exact ⟨_, ⟨hbelow, hfits⟩, ⟨c.buf.toNat, by omega⟩, rfl, rfl⟩

theorem Composer.eraseOp_isSome (c : Composer) (kind : Kind) (unit capacity : Nat) :
    (c.eraseOp kind unit capacity).isSome = true ↔ c.addr.toNat < capacity ∧ c.addr.toNat % unit = 0 := by
  simp [Option.isSome_iff_exists, Composer.eraseOp_eq_some]

theorem Composer.operation_of_read {c : Composer} (h : c.kind = 1) (capacity : Nat) :
    c.operation capacity = c.transferOp .read capacity := by simp [Composer.operation, Kind.ofCode, h]
theorem Composer.operation_of_verify {c : Composer} (h : c.kind = 2) (capacity : Nat) :
    c.operation capacity = c.transferOp .verify capacity := by simp [Composer.operation, Kind.ofCode, h]
/-- A PROGRAM stays within one page of 256 bytes. -/
theorem Composer.operation_of_program {c : Composer} (h : c.kind = 3) (capacity : Nat) :
    c.operation capacity
      = if c.addr.toNat % 256 + lengthOf c.len ≤ 256 then c.transferOp .program capacity else none := by
  simp [Composer.operation, Kind.ofCode, h]
theorem Composer.operation_of_eraseSector {c : Composer} (h : c.kind = 4) (capacity : Nat) :
    c.operation capacity = c.eraseOp .eraseSector 4096 capacity := by simp [Composer.operation, Kind.ofCode, h]
theorem Composer.operation_of_eraseBlock {c : Composer} (h : c.kind = 5) (capacity : Nat) :
    c.operation capacity = c.eraseOp .eraseBlock 65536 capacity := by simp [Composer.operation, Kind.ofCode, h]
theorem Composer.operation_of_noKind {c : Composer} (h : Kind.ofCode c.kind = none) (capacity : Nat) :
    c.operation capacity = none := by simp [Composer.operation, h]

/-- The conditions of R6, kind by kind. -/
theorem Composer.operation_isSome (c : Composer) (capacity : Nat) :
    (c.operation capacity).isSome = true ↔
      ((c.kind = 1 ∨ c.kind = 2) ∧ c.addr.toNat < capacity ∧ c.addr.toNat + lengthOf c.len ≤ capacity ∧ c.buf.toNat ≤ 15)
      ∨ (c.kind = 3 ∧ c.addr.toNat < capacity ∧ c.addr.toNat + lengthOf c.len ≤ capacity ∧ c.buf.toNat ≤ 15
          ∧ c.addr.toNat % 256 + lengthOf c.len ≤ 256)
      ∨ (c.kind = 4 ∧ c.addr.toNat < capacity ∧ c.addr.toNat % 4096 = 0)
      ∨ (c.kind = 5 ∧ c.addr.toNat < capacity ∧ c.addr.toNat % 65536 = 0) := by
  rcases Kind.ofCode_cases c.kind with h | h | h | h | h | ⟨h, h1, h2, h3, h4, h5⟩
  · rw [Composer.operation_of_read h, Composer.transferOp_isSome]; simp [h]
  · rw [Composer.operation_of_verify h, Composer.transferOp_isSome]; simp [h]
  · rw [Composer.operation_of_program h]
    by_cases hpage : c.addr.toNat % 256 + lengthOf c.len ≤ 256
    · rw [if_pos hpage, Composer.transferOp_isSome]; simp [h, hpage]
    · simp [h, hpage]
  · rw [Composer.operation_of_eraseSector h, Composer.eraseOp_isSome]; simp [h]
  · rw [Composer.operation_of_eraseBlock h, Composer.eraseOp_isSome]; simp [h]
  · rw [Composer.operation_of_noKind h]; simp only [Option.isSome_none, Bool.false_eq_true, h1, h2, h3, h4, h5, false_and, or_self]

/-- What a slot takes from a legal composer (R1, R6): its tag and address, for a transfer its length and buffer, and the
sector or block of an erase, which ends at or below a capacity of whole 64 KiB blocks because it is aligned. -/
structure Composer.CopiedTo (c : Composer) (capacity : Nat) (op : SlotOp) : Prop where
  kind : op.kind.code = c.kind
  tag : op.tag = c.tag
  addr : op.addr = c.addr.toNat
  transfer : c.kind.toNat ≤ 3 →
    ∃ b : Fin 16, b.val = c.buf.toNat ∧ op.transfer = some { length := lengthOf c.len, buffer := b }
  erase : 4 ≤ c.kind.toNat → op.transfer = none
  below : capacity % 65536 = 0 → op.range.first = c.addr.toNat ∧ op.range.first + op.range.length ≤ capacity

/-- A transfer's range is its bytes, which the composer's conditions keep below capacity. -/
theorem Composer.copiedTo_of_transferOp {c : Composer} {kind : Kind} {capacity : Nat} {op : SlotOp}
    (h : c.transferOp kind capacity = some op) (hcode : kind.code = c.kind) (htransfer : kind.code.toNat ≤ 3) : c.CopiedTo capacity op := by
  obtain ⟨⟨-, hfits⟩, b, hb, rfl⟩ := (Composer.transferOp_eq_some c kind capacity op).1 h
  refine ⟨hcode, rfl, rfl, fun _ => ⟨b, hb, rfl⟩, fun herase => ?_, fun _ => ?_⟩
  · rw [← hcode] at herase; omega
  · cases kind
    case eraseSector | eraseBlock => exact absurd htransfer (by decide)
    all_goals exact ⟨rfl, hfits⟩

/-- An erase's range is a unit that divides 64 KiB and starts at a multiple of it. -/
theorem Composer.copiedTo_of_eraseOp {c : Composer} {kind : Kind} {unit capacity : Nat} {op : SlotOp}
    (h : c.eraseOp kind unit capacity = some op) (hcode : kind.code = c.kind)
    (hunit : kind = .eraseSector ∧ unit = 4096 ∨ kind = .eraseBlock ∧ unit = 65536) : c.CopiedTo capacity op := by
  obtain ⟨⟨hbelow, haligned⟩, rfl⟩ := (Composer.eraseOp_eq_some c kind unit capacity op).1 h
  rcases hunit with ⟨rfl, rfl⟩ | ⟨rfl, rfl⟩
  all_goals
    refine ⟨hcode, rfl, rfl, fun htransfer => ?_, fun _ => rfl, fun hblocks => ⟨rfl, ?_⟩⟩
    · rw [← hcode] at htransfer; exact absurd htransfer (by decide)
    · simp only [SlotOp.range]; omega

theorem Composer.operation_copied {c : Composer} {capacity : Nat} {op : SlotOp} (h : c.operation capacity = some op) :
    c.CopiedTo capacity op := by
  rcases Kind.ofCode_cases c.kind with k | k | k | k | k | ⟨k, -⟩
  · rw [Composer.operation_of_read k] at h
    exact Composer.copiedTo_of_transferOp h k.symm (by decide)
  · rw [Composer.operation_of_verify k] at h
    exact Composer.copiedTo_of_transferOp h k.symm (by decide)
  · rw [Composer.operation_of_program k, Option.ite_none_right_eq_some] at h
    exact Composer.copiedTo_of_transferOp h.2 k.symm (by decide)
  · rw [Composer.operation_of_eraseSector k] at h
    exact Composer.copiedTo_of_eraseOp h k.symm (.inl ⟨rfl, rfl⟩)
  · rw [Composer.operation_of_eraseBlock k] at h
    exact Composer.copiedTo_of_eraseOp h k.symm (.inr ⟨rfl, rfl⟩)
  · rw [Composer.operation_of_noKind k] at h
    cases h

/-- A valid profile's capacity is 1 MiB or a larger power of two (R147). -/
theorem Profile.capacity_blocks {prof : Profile} (h : prof.valid = true) : prof.capacity % 65536 = 0 := by
  have hcode : 1 ≤ prof.num .capacityCode := by
    simp only [Profile.valid, Profile.rangesValid, Profile.within, Bool.and_eq_true, decide_eq_true_eq] at h
    omega
  exact Nat.mod_eq_zero_of_dvd (Nat.pow_dvd_pow 2 (show 16 ≤ prof.num .capacityCode + 19 by omega))

/-- Settles O9: legality by the operation of each kind, and the copy by the shape of a transfer and of an erase. -/
theorem composerLegality : Obligations.ComposerLegality := by
  unfold Obligations.ComposerLegality
  refine ⟨fun c capacity => ⟨c.operation_isSome capacity, fun op hop => ?_⟩, fun prof hvalid => Profile.capacity_blocks hvalid⟩
  obtain ⟨hkind, htag, haddr, htransfer, herase, hbelow⟩ := Composer.operation_copied hop
  exact ⟨hkind, htag, haddr, htransfer, herase, hbelow⟩

end Sys2Proof.Machine
end

section
/-! SUPPORT. Who changes the halt-on-error mode (R12): what each shared operation and each row's meaning leaves of it. -/

namespace Sys2Proof.Machine

/-! ### The updates of a port's record -/

theorem State.modPort_queue_of_kept (s : State) (p q : Port) {f : PortState → PortState} (h : ∀ x, (f x).queue = x.queue) :
    (s.modPort p f).queue q = s.queue q := by
  simp only [State.queue, State.port_modPort_eq]
  split
  · next e => rw [h, e]
  · rfl

theorem State.modQueue_haltOnError (s : State) (p q : Port) {f : Queue → Queue} (h : ∀ x, (f x).haltOnError = x.haltOnError) :
    ((s.modQueue p f).queue q).haltOnError = (s.queue q).haltOnError := by
  rw [State.modQueue_queue_eq]
  split
  · next e => rw [h, e]
  · rfl

theorem State.queue_withPool (s : State) (x : Pool) (q : Port) : ({ s with pool := x } : State).queue q = s.queue q := rfl

@[simp] theorem State.setQueueState_haltOnError (s : State) (p q : Port) (x : QueueState) :
    ((s.setQueueState p x).queue q).haltOnError = (s.queue q).haltOnError := s.modQueue_haltOnError p q fun _ => rfl
@[simp] theorem State.modComposer_haltOnError (s : State) (p q : Port) (f : Composer → Composer) :
    ((s.modComposer p f).queue q).haltOnError = (s.queue q).haltOnError := s.modQueue_haltOnError p q fun _ => rfl
@[simp] theorem State.setStaging_queue (s : State) (x v : Byte) (q : Port) : (s.setStaging x v).queue q = s.queue q := by
  unfold State.setStaging; split <;> rfl

/-! ### Completions and grants -/

@[simp] theorem State.finishSlot_haltOnError (s : State) (p q : Port) (n : Fin 8) (c : Completion) :
    ((s.finishSlot p n c).queue q).haltOnError = (s.queue q).haltOnError := by
  cases h : (s.queue p).slots[n].waiting with
  | none => rw [State.finishSlot_of_none h]
  | some op =>
    rw [State.finishSlot_queue h]
    split
    · next e => rw [e]; rfl
    · rfl

@[simp] theorem State.complete_haltOnError (s : State) (r : OpRecord) (status : Status) (d : Byte) (q : Port) :
    ((s.complete r status d).queue q).haltOnError = (s.queue q).haltOnError := by
  rw [State.complete_queue]; split <;> simp

@[simp] theorem State.denyHead_haltOnError (s : State) (p q : Port) (d : Nat) :
    ((s.denyHead p d).queue q).haltOnError = (s.queue q).haltOnError := by
  simp only [State.denyHead, State.countDenial_frame, State.finishSlot_haltOnError]
  exact s.modQueue_haltOnError p q fun _ => rfl

@[simp] theorem State.startHead_haltOnError (s : State) (p q : Port) (op : SlotOp) :
    ((s.startHead p op).queue q).haltOnError = (s.queue q).haltOnError := by
  have hslot : ((s.modQueue p fun x => { x.setSlot (s.queue p).start (.active op) with start := x.start + 1 }).queue
      q).haltOnError = (s.queue q).haltOnError := s.modQueue_haltOnError p q fun _ => rfl
  unfold State.startHead
  cases op.kind.isWrite <;> simp [hslot]

@[simp] theorem State.grantHead_haltOnError (s : State) (p q : Port) :
    ((s.grantHead p).queue q).haltOnError = (s.queue q).haltOnError := by
  unfold State.grantHead
  split
  · rfl
  · simp only
    split <;> split <;> simp

@[simp] theorem State.grant_haltOnError (s : State) (c : Candidate) (q : Port) :
    ((s.grant c).queue q).haltOnError = (s.queue q).haltOnError := by
  cases c <;> simp [State.grant]

/-- The denials and the grant of a grant point move slots; none touches a mode. -/
@[simp] theorem State.grantPoint_haltOnError (s : State) (q : Port) :
    (s.grantPoint.queue q).haltOnError = (s.queue q).haltOnError :=
  grantRepeat_induct (P := fun t => (t.queue q).haltOnError = (s.queue q).haltOnError)
    (fun t c h _ _ => (t.grant_haltOnError c q).trans h) 19 s rfl

@[simp] theorem State.enterIdle_haltOnError (s : State) (q : Port) :
    (s.enterIdle.queue q).haltOnError = (s.queue q).haltOnError := by simp [State.enterIdle]
@[simp] theorem State.consider_haltOnError (s : State) (q : Port) :
    (s.consider.queue q).haltOnError = (s.queue q).haltOnError := by
  unfold State.consider; split <;> simp

/-! ### Accesses, commands and ends of transactions -/

theorem State.access_haltOnError (s : State) (p q : Port) {f : State → State}
    (h : ((f s).queue q).haltOnError = (s.queue q).haltOnError) :
    ((s.access p f).queue q).haltOnError = (s.queue q).haltOnError := by
  rcases s.access_cases p f with e | ⟨-, e⟩ <;> rw [e]
  exact h

theorem State.command_haltOnError (s : State) (p q : Port) {f : State → State × Result}
    (h : ((f s).1.queue q).haltOnError = (s.queue q).haltOnError) :
    ((s.command p f).queue q).haltOnError = (s.queue q).haltOnError :=
  s.access_haltOnError p q (by simpa using h)

theorem State.onOperationEnd_haltOnError (s : State) (x : SeqState) (t : Transaction) (q : Port) {f : OpRecord → State → State}
    (h : ∀ left r, ((f r (s.lineEnded left)).queue q).haltOnError = (s.queue q).haltOnError) :
    ((s.onOperationEnd x t f).queue q).haltOnError = (s.queue q).haltOnError := by
  rcases s.onOperationEnd_cases x t f with e | ⟨left, r, -, -, -, e⟩ <;> rw [e]
  exact h left r

theorem State.onResetEnd_haltOnError (s : State) (t : Transaction) (q : Port) {f : State → State}
    (h : ∀ left, ((f (s.lineEnded left)).queue q).haltOnError = (s.queue q).haltOnError) :
    ((s.onResetEnd t f).queue q).haltOnError = (s.queue q).haltOnError := by
  rcases s.onResetEnd_cases t f with e | ⟨left, -, -, e⟩ <;> rw [e]
  exact h left

/-! ### The commands -/

@[simp] theorem State.enqueue_haltOnError (s : State) (p q : Port) (op : SlotOp) :
    ((s.enqueue p op).queue q).haltOnError = (s.queue q).haltOnError := by
  have hslot : ((s.modQueue p fun x => { x.setSlot (s.queue p).post (.queued op) with post := x.post + 1 }).queue
      q).haltOnError = (s.queue q).haltOnError := s.modQueue_haltOnError p q fun _ => rfl
  unfold State.enqueue
  cases op.buffer <;> simpa using hslot

@[simp] theorem State.flushQueue_haltOnError (s : State) (p q : Port) :
    ((s.flushQueue p).queue q).haltOnError = (s.queue q).haltOnError := by
  simp only [State.flushQueue, State.countCompletions_frame]
  rw [State.queue_withPool]
  exact s.modQueue_haltOnError p q fun _ => rfl

@[simp] theorem State.closeByCommit_queue (s : State) (p q : Port) : (s.closeByCommit p).queue q = s.queue q := by
  unfold State.closeByCommit; simp only; split <;> simp

theorem State.startResetSequence_queue (s : State) (x : SeqState) (q : Port) : (s.startResetSequence x).queue q = s.queue q := rfl

@[simp] theorem State.giveBuffer_queue (s : State) (p q : Port) (b : Fin 16) : (s.giveBuffer p b).queue q = s.queue q :=
  State.modPort_queue_of_kept _ p q fun _ => rfl

theorem postBody_haltOnError (p q : Port) (s : State) :
    (((postBody p s).1).queue q).haltOnError = (s.queue q).haltOnError := by
  unfold postBody; (repeat' split) <;> simp [accept, refuse]
theorem retireBody_haltOnError (p q : Port) (s : State) :
    (((retireBody p s).1).queue q).haltOnError = (s.queue q).haltOnError := by
  unfold retireBody; simp only
  split
  · exact s.modQueue_haltOnError p q fun _ => rfl
  · rfl
theorem startBody_haltOnError (p q : Port) (s : State) :
    (((startBody p s).1).queue q).haltOnError = (s.queue q).haltOnError := by
  unfold startBody; split <;> simp [accept, refuse]
theorem stopBody_haltOnError (p q : Port) (s : State) :
    (((stopBody p s).1).queue q).haltOnError = (s.queue q).haltOnError := by
  unfold stopBody; split <;> simp [accept]
theorem resumeBody_haltOnError (p q : Port) (s : State) :
    (((resumeBody p s).1).queue q).haltOnError = (s.queue q).haltOnError := by
  unfold resumeBody; split <;> simp [accept, refuse]
theorem flushBody_haltOnError (p q : Port) (s : State) :
    (((flushBody p s).1).queue q).haltOnError = (s.queue q).haltOnError := by
  unfold flushBody; (repeat' split) <;> simp [accept, refuse]
theorem claimBody_queue (p q : Port) (s : State) : (claimBody p s).1.queue q = s.queue q := by
  unfold claimBody; (repeat' split) <;> simp [accept]
theorem releaseBody_queue (p q : Port) (s : State) : (releaseBody p s).1.queue q = s.queue q := by
  unfold releaseBody; (repeat' split) <;> simp [accept, refuse]
theorem openBody_haltOnError (p q : Port) (s : State) :
    (((openBody p s).1).queue q).haltOnError = (s.queue q).haltOnError := by
  unfold openBody; split
  · rfl
  · simp only; split <;> simp [accept, refuse]
theorem closeBody_queue (p q : Port) (s : State) : (closeBody p s).1.queue q = s.queue q := by
  simp [closeBody, accept]
theorem holdRequestBody_queue (p q : Port) (s : State) : (holdRequestBody p s).1.queue q = s.queue q := by
  unfold holdRequestBody; simp only; (repeat' split) <;> simp [accept, refuse]
theorem holdRenewBody_queue (p q : Port) (s : State) : (holdRenewBody p s).1.queue q = s.queue q := by
  unfold holdRenewBody; split <;> simp [accept, refuse]
theorem holdReleaseBody_haltOnError (p q : Port) (s : State) :
    (((holdReleaseBody p s).1).queue q).haltOnError = (s.queue q).haltOnError := by
  unfold holdReleaseBody; split <;> simp [accept, refuse]
theorem claimAuthorityBody_queue (p q : Port) (s : State) : (claimAuthorityBody p s).1.queue q = s.queue q := by
  unfold claimAuthorityBody; (repeat' split) <;> simp [accept, refuse]
theorem releaseAuthorityBody_queue (p q : Port) (s : State) : (releaseAuthorityBody p s).1.queue q = s.queue q := by
  unfold releaseAuthorityBody; split <;> simp [accept, refuse]
theorem State.takeProfile_queue (s : State) (q : Port) : s.takeProfile.queue q = s.queue q := by
  simp only [State.takeProfile, State.startResetSequence_queue, State.raiseBoth_frame, State.closeByCommit_queue]
  rfl
theorem commitProfileBody_queue (p q : Port) (s : State) : (commitProfileBody p s).1.queue q = s.queue q := by
  unfold commitProfileBody; (repeat' split) <;> simp [accept, refuse, State.takeProfile_queue]
theorem commitRegionBody_queue (p q : Port) (s : State) : (commitRegionBody p s).1.queue q = s.queue q := by
  unfold commitRegionBody; simp only; (repeat' split) <;> simp [accept, refuse]
theorem commitDefaultsBody_queue (p q : Port) (s : State) : (commitDefaultsBody p s).1.queue q = s.queue q := by
  unfold commitDefaultsBody
  (repeat' split) <;> simp only [accept, refuse, State.raiseBoth_frame]
  rfl
theorem clearGlobalCountersBody_queue (p q : Port) (s : State) : (clearGlobalCountersBody p s).1.queue q = s.queue q := by
  unfold clearGlobalCountersBody; split <;> rfl
theorem recoverBody_queue (q : Port) (s : State) : (recoverBody s).1.queue q = s.queue q := by
  unfold recoverBody; split <;> rfl
theorem clearCountersBody_queue (p q : Port) (s : State) : (clearCountersBody p s).1.queue q = s.queue q :=
  s.modPort_queue_of_kept p q fun _ => rfl

/-! ### The window's other accesses -/

theorem readBufdata_queue (p q : Port) (s : State) : (readBufdata p s).queue q = s.queue q := by
  unfold readBufdata; split <;> simp
theorem writeBufdata_queue (p q : Port) (v : Byte) (s : State) : (writeBufdata p v s).queue q = s.queue q := by
  unfold writeBufdata; split <;> simp
theorem readApdata_haltOnError (p q : Port) (s : State) :
    ((readApdata p s).queue q).haltOnError = (s.queue q).haltOnError := by
  unfold readApdata; simp only; (repeat' split) <;> simp [State.beginStall]
theorem writeEvflags_queue (p q : Port) (high : Bool) (v : Byte) (s : State) : (writeEvflags p high v s).queue q = s.queue q :=
  s.modPort_queue_of_kept p q fun _ => rfl
theorem writeEvenable_queue (p q : Port) (high : Bool) (v : Byte) (s : State) :
    (writeEvenable p high v s).queue q = s.queue q := s.modPort_queue_of_kept p q fun _ => rfl
theorem readCfgdata_queue (p q : Port) (s : State) : (readCfgdata p s).queue q = s.queue q := by simp [readCfgdata]
theorem writeCfgdata_queue (p q : Port) (v : Byte) (s : State) : (writeCfgdata p v s).queue q = s.queue q := by
  unfold writeCfgdata; simp only; (repeat' split) <;> simp

/-- A plain field's write stores the composer, the aperture's or the port's settings; QMODE is none of them. -/
theorem writePlain_haltOnError (p q : Port) (offset : BitVec 6) (v : Byte) (s : State) :
    ((writePlain p offset v s).queue q).haltOnError = (s.queue q).haltOnError := by
  unfold writePlain
  (repeat' split) <;> simp [State.modPort_queue_of_kept]

theorem writeCommand_of_noName (p q : Port) {code : Byte} (h : CommandName.ofCode code = none) (s : State) :
    ((writeCommand p code s).queue q).haltOnError = (s.queue q).haltOnError := by
  unfold writeCommand; rw [h]
  exact s.command_haltOnError p q rfl

theorem writeWindow_of_noOwnRow (p q : Port) {offset : BitVec 6} (v : Byte) (h : ownWriteRow offset = false) (s : State) :
    ((writeWindow p offset v s).queue q).haltOnError = (s.queue q).haltOnError := by
  unfold writeWindow
  split
  case h_9 => exact s.access_haltOnError p q (writePlain_haltOnError p q offset v s)
  all_goals simp_all [ownWriteRow]

/-! ### Timers and the line -/

theorem abandonRead_queue (p q : Port) (s : State) : (abandonRead p s).queue q = s.queue q := by
  unfold abandonRead; split <;> simp
theorem expireStall_queue (p q : Port) (s : State) : (expireStall p s).queue q = s.queue q := by
  rcases expireStall_cases p s with e | ⟨-, -, e⟩ <;> simp [e]
theorem expireHoldoff_queue (p q : Port) (s : State) : (expireHoldoff p s).queue q = s.queue q := by
  rcases expireHoldoff_cases p s with e | ⟨-, e⟩ <;> simp [e]
theorem expireHold_haltOnError (s : State) (q : Port) : ((expireHold s).queue q).haltOnError = (s.queue q).haltOnError := by
  rcases expireHold_cases s with e | ⟨p, -, -, e⟩ <;> simp [e]
theorem beginTransaction_queue (s : State) (q : Port) : (beginTransaction s).queue q = s.queue q := by
  unfold beginTransaction; split <;> simp
theorem expirePoll_queue (s : State) (q : Port) : (expirePoll s).queue q = s.queue q := by
  unfold expirePoll; (repeat' split) <;> simp
theorem expireLatency_queue (s : State) (q : Port) : (expireLatency s).queue q = s.queue q := by
  unfold expireLatency; (repeat' split) <;> simp
theorem expireRecoveryDelay_queue (s : State) (q : Port) : (expireRecoveryDelay s).queue q = s.queue q := by
  unfold expireRecoveryDelay; (repeat' split) <;> simp
theorem expireDwell_haltOnError (s : State) (q : Port) : ((expireDwell s).queue q).haltOnError = (s.queue q).haltOnError := by
  have helapse (left : Nat) := congrArg Queue.haltOnError (s.elapse_queue left q)
  unfold expireDwell
  split
  · simp only
    split
    · exact (State.grantPoint_haltOnError _ q).trans (helapse _)
    · exact helapse _
  · rfl
theorem reachMinimumRun_queue (s : State) (q : Port) : (reachMinimumRun s).queue q = s.queue q := by
  unfold reachMinimumRun; (repeat' split) <;> simp

/-! ### The sequencer's rows -/

@[simp] theorem evaluateCompletion_haltOnError (r : OpRecord) (status : Byte) (s : State) (q : Port) :
    ((evaluateCompletion r status s).queue q).haltOnError = (s.queue q).haltOnError := by
  unfold evaluateCompletion; split <;> simp
@[simp] theorem timeOut_haltOnError (r : OpRecord) (s : State) (q : Port) :
    ((timeOut r s).queue q).haltOnError = (s.queue q).haltOnError := by simp [timeOut]
@[simp] theorem confirmSuspension_haltOnError (r : OpRecord) (s : State) (q : Port) :
    ((confirmSuspension r s).queue q).haltOnError = (s.queue q).haltOnError := by simp [confirmSuspension]
@[simp] theorem failHandshake_queue (s : State) (q : Port) : (failHandshake s).queue q = s.queue q := by simp [failHandshake]
@[simp] theorem State.deliverFill_queue (s : State) (r : OpRecord) (data : List Byte) (q : Port) :
    (s.deliverFill r data).queue q = s.queue q := by
  unfold State.deliverFill; split <;> simp

theorem finishRead_haltOnError (data : List Byte) (s : State) (q : Port) :
    ((finishRead data s).queue q).haltOnError = (s.queue q).haltOnError := by
  refine s.onOperationEnd_haltOnError _ _ q fun left r => ?_
  split
  · cases r.buffer <;> simp
  · rfl
theorem finishVerify_haltOnError (data : List Byte) (s : State) (q : Port) :
    ((finishVerify data s).queue q).haltOnError = (s.queue q).haltOnError := by
  refine s.onOperationEnd_haltOnError _ _ q fun left r => ?_
  split <;> simp
theorem finishFill_haltOnError (data : List Byte) (s : State) (q : Port) :
    ((finishFill data s).queue q).haltOnError = (s.queue q).haltOnError := by
  refine s.onOperationEnd_haltOnError _ _ q fun left r => ?_
  split <;> simp
theorem finishWriteEnable_haltOnError (s : State) (q : Port) :
    ((finishWriteEnable s).queue q).haltOnError = (s.queue q).haltOnError :=
  s.onOperationEnd_haltOnError _ _ q fun left r => by simp
theorem checkWriteEnable_haltOnError (status : Byte) (s : State) (q : Port) :
    ((checkWriteEnable status s).queue q).haltOnError = (s.queue q).haltOnError := by
  refine s.onOperationEnd_haltOnError _ _ q fun left r => ?_
  split <;> simp
theorem finishCommand_haltOnError (s : State) (q : Port) :
    ((finishCommand s).queue q).haltOnError = (s.queue q).haltOnError :=
  s.onOperationEnd_haltOnError _ _ q fun left r => by simp
theorem finishPoll_haltOnError (status : Byte) (s : State) (q : Port) :
    ((finishPoll status s).queue q).haltOnError = (s.queue q).haltOnError := by
  refine s.onOperationEnd_haltOnError _ _ q fun left r => ?_
  (repeat' split) <;> simp
theorem finishSuspendTransaction_haltOnError (s : State) (q : Port) :
    ((finishSuspendTransaction s).queue q).haltOnError = (s.queue q).haltOnError :=
  s.onOperationEnd_haltOnError _ _ q fun left r => by simp
theorem finishHandshakeRead_haltOnError (status : Byte) (s : State) (q : Port) :
    ((finishHandshakeRead status s).queue q).haltOnError = (s.queue q).haltOnError := by
  refine s.onOperationEnd_haltOnError _ _ q fun left r => ?_
  simp only
  (repeat' split) <;> simp
theorem finishResumeTransaction_haltOnError (s : State) (q : Port) :
    ((finishResumeTransaction s).queue q).haltOnError = (s.queue q).haltOnError :=
  s.onOperationEnd_haltOnError _ _ q fun left r => by simp
theorem finishResetEnable_haltOnError (s : State) (q : Port) :
    ((finishResetEnable s).queue q).haltOnError = (s.queue q).haltOnError :=
  s.onResetEnd_haltOnError _ q fun left => by simp
theorem finishResetDevice_haltOnError (s : State) (q : Port) :
    ((finishResetDevice s).queue q).haltOnError = (s.queue q).haltOnError :=
  s.onResetEnd_haltOnError _ q fun left => by simp

theorem State.endTransaction_queue {s t : State} {x : Transaction} (h : s.endTransaction x = some t) (q : Port) :
    t.queue q = s.queue q := by
  obtain ⟨left, -, rfl⟩ := (s.endTransaction_eq_some t x).1 h
  exact s.lineEnded_queue left q

theorem finishInitialization_haltOnError (status : Byte) (s : State) (q : Port) :
    ((finishInitialization status s).queue q).haltOnError = (s.queue q).haltOnError := by
  unfold finishInitialization
  split
  · next t h => (repeat' split) <;> simp [State.endTransaction_queue h]
  · rfl
theorem finishRecovery_haltOnError (status : Byte) (s : State) (q : Port) :
    ((finishRecovery status s).queue q).haltOnError = (s.queue q).haltOnError := by
  unfold finishRecovery
  split
  · next t h => (repeat' split) <;> simp [State.endTransaction_queue h]
  · rfl

/-! ### The resets -/

@[simp] theorem State.dropHold_queue (s : State) (p q : Port) : (s.dropHold p).queue q = s.queue q := by
  unfold State.dropHold; split <;> simp
@[simp] theorem State.dropAuthority_queue (s : State) (p q : Port) : (s.dropAuthority p).queue q = s.queue q := by
  unfold State.dropAuthority; split <;> simp

/-- The rings after the port reset of `p`: its own as after power-on, its peer's as before (R25). -/
theorem State.portReset_queue (s : State) (p q : Port) :
    (s.portReset p).queue q = if q = p then Queue.reset else s.queue q := by
  have hport : (s.modPort p PortState.portReset).queue q = if q = p then Queue.reset else s.queue q := by
    simp only [State.queue, State.port_modPort_eq]
    split <;> rfl
  rw [← hport]
  unfold State.portReset
  simp only [State.raise_frame]
  split <;> simp only [State.noticeFreed_frame, State.dropAuthority_queue, State.dropHold_queue, State.modSeq_queue] <;>
    rw [State.queue_withPool]

theorem softReset_haltOnError (p q : Port) (s : State) :
    ((softReset p s).queue q).haltOnError = if q = p then false else (s.queue q).haltOnError := by
  simp only [softReset, State.consider_haltOnError, State.portReset_queue]
  split <;> rfl

/-- A recognised low level on the reset pin is the same port reset. -/
theorem recogniseReset_of_taken {p : Port} {s : State} (hp : s.powerOnReset = false) (hr : (s.port p).inReset = false) :
    recogniseReset p s = ((s.portReset p).setInReset p true).consider := by simp [recogniseReset, hp, hr]

theorem recogniseReset_haltOnError_of_ne {p q : Port} (h : q ≠ p) (s : State) :
    ((recogniseReset p s).queue q).haltOnError = (s.queue q).haltOnError := by
  unfold recogniseReset
  split <;> simp [State.portReset_queue, h]

theorem endPortReset_queue (p q : Port) (s : State) : (endPortReset p s).queue q = s.queue q := by
  unfold endPortReset; split <;> simp
theorem endPowerOn_queue (lowA lowB : Bool) (s : State) (q : Port) : (endPowerOn lowA lowB s).queue q = s.queue q := by
  unfold endPowerOn
  split
  · simp only [State.setInReset_queue_frame]; rfl
  · rfl

/-! ### Every row -/

/-- The mode of port `p` in the state a row answers is the one it had, when the row's meaning keeps it. -/
theorem haltOnError_kept_of_next {s t u : State} {p : Port} (h : (.next u : Host.Outcome State Fault Refusal) = .next t)
    (kept : (u.queue p).haltOnError = (s.queue p).haltOnError) : (t.queue p).haltOnError = (s.queue p).haltOnError :=
  Host.Outcome.next.inj h ▸ kept

theorem writeQmode_of_stopped {p : Port} {s : State} (h : (s.queue p).state = .stopped) (v : Byte) :
    writeQmode p v s = s.modQueue p fun q => { q with haltOnError := v.getLsbD 0 } := if_pos h
theorem writeQmode_of_not_stopped {p : Port} {s : State} (h : (s.queue p).state ≠ .stopped) (v : Byte) :
    writeQmode p v s = s.setResult p .refusedState := if_neg h

theorem exec_qmodeWrite (p : Port) (v : Byte) (s : State) : exec (.qmodeWrite p v) s = .next (s.access p (writeQmode p v)) := rfl
theorem exec_softReset (p : Port) (s : State) : exec (.softReset p) s = .next (s.access p (softReset p)) := rfl
theorem exec_prstRecognised (p : Port) (s : State) : exec (.prstRecognised p) s = .next (recogniseReset p s) := rfl

/-- A write of port `r`'s QMODE keeps the mode of `p`, unless it is `p`'s own and finds the queue STOPPED. -/
theorem writeQmode_haltOnError_kept {p r : Port} {s : State} (h : ¬ (p = r ∧ (s.queue r).state = .stopped)) (v : Byte) :
    ((writeQmode r v s).queue p).haltOnError = (s.queue p).haltOnError := by
  by_cases hs : (s.queue r).state = .stopped
  · rw [writeQmode_of_stopped hs, State.modQueue_queue_eq, if_neg fun e => h ⟨e, hs⟩]
  · rw [writeQmode_of_not_stopped hs, State.setResult_queue_frame]

/-- The rows that may change the mode of port `p` from `s`: its own QMODE write in STOPPED, and its resets. -/
def maySetHaltMode (p : Port) (s : State) (i : Instr) : Prop :=
  ((s.queue p).state = .stopped ∧ ∃ v, i = .qmodeWrite p v) ∨ i = .softReset p ∨ i = .prstRecognised p ∨ i = .powerOnReset

/-- Every other well-formed row keeps the mode. -/
theorem exec_haltOnError_kept {i : Instr} {p : Port} {s t : State} (hwf : wellFormed i = true) (h : exec i s = .next t)
    (hi : ¬ maySetHaltMode p s i) : (t.queue p).haltOnError = (s.queue p).haltOnError := by
  have keep {u : State} (e : (.next u : Host.Outcome State Fault Refusal) = .next t) := haltOnError_kept_of_next (s := s) (p := p) e
  cases i with
  | post r => exact keep h (s.command_haltOnError r p (postBody_haltOnError r p s))
  | retire r => exact keep h (s.command_haltOnError r p (retireBody_haltOnError r p s))
  | start r => exact keep h (s.command_haltOnError r p (startBody_haltOnError r p s))
  | stop r => exact keep h (s.command_haltOnError r p (stopBody_haltOnError r p s))
  | resume r => exact keep h (s.command_haltOnError r p (resumeBody_haltOnError r p s))
  | flush r => exact keep h (s.command_haltOnError r p (flushBody_haltOnError r p s))
  | claim r => exact keep h (s.command_haltOnError r p (congrArg _ (claimBody_queue r p s)))
  | release r => exact keep h (s.command_haltOnError r p (congrArg _ (releaseBody_queue r p s)))
  | openAperture r => exact keep h (s.command_haltOnError r p (openBody_haltOnError r p s))
  | closeAperture r => exact keep h (s.command_haltOnError r p (congrArg _ (closeBody_queue r p s)))
  | holdRequest r => exact keep h (s.command_haltOnError r p (congrArg _ (holdRequestBody_queue r p s)))
  | holdRenew r => exact keep h (s.command_haltOnError r p (congrArg _ (holdRenewBody_queue r p s)))
  | holdRelease r => exact keep h (s.command_haltOnError r p (holdReleaseBody_haltOnError r p s))
  | claimAuthority r => exact keep h (s.command_haltOnError r p (congrArg _ (claimAuthorityBody_queue r p s)))
  | releaseAuthority r => exact keep h (s.command_haltOnError r p (congrArg _ (releaseAuthorityBody_queue r p s)))
  | commitProfile r => exact keep h (s.command_haltOnError r p (congrArg _ (commitProfileBody_queue r p s)))
  | commitRegion r => exact keep h (s.command_haltOnError r p (congrArg _ (commitRegionBody_queue r p s)))
  | commitDefaults r => exact keep h (s.command_haltOnError r p (congrArg _ (commitDefaultsBody_queue r p s)))
  | clearGlobalCounters r => exact keep h (s.command_haltOnError r p (congrArg _ (clearGlobalCountersBody_queue r p s)))
  | recover r => exact keep h (s.command_haltOnError r p (congrArg _ (recoverBody_queue p s)))
  | clearCounters r => exact keep h (s.command_haltOnError r p (congrArg _ (clearCountersBody_queue r p s)))
  | softReset r =>
    have hne : p ≠ r := fun e => hi (.inr (.inl (e ▸ rfl)))
    exact keep h (s.access_haltOnError r p (by rw [softReset_haltOnError, if_neg hne]))
  | undefinedCommand r code => exact keep h (writeCommand_of_noName r p (by simpa [wellFormed] using hwf) s)
  | qmodeWrite r v =>
    have hne : ¬ (p = r ∧ (s.queue r).state = .stopped) := fun ⟨e, hs⟩ => hi (.inl ⟨e ▸ hs, v, e ▸ rfl⟩)
    exact keep h (s.access_haltOnError r p (writeQmode_haltOnError_kept hne v))
  | bufdataRead r => exact keep h (s.access_haltOnError r p (congrArg _ (readBufdata_queue r p s)))
  | bufdataWrite r v => exact keep h (s.access_haltOnError r p (congrArg _ (writeBufdata_queue r p v s)))
  | apdataRead r => exact keep h (s.access_haltOnError r p (readApdata_haltOnError r p s))
  | evflagsWrite r high v => exact keep h (s.access_haltOnError r p (congrArg _ (writeEvflags_queue r p high v s)))
  | evenableWrite r high v => exact keep h (s.access_haltOnError r p (congrArg _ (writeEvenable_queue r p high v s)))
  | cfgdataRead r => exact keep h (s.access_haltOnError r p (congrArg _ (readCfgdata_queue r p s)))
  | cfgdataWrite r v => exact keep h (s.access_haltOnError r p (congrArg _ (writeCfgdata_queue r p v s)))
  | registerWrite r offset v => exact keep h (writeWindow_of_noOwnRow r p v (by simpa [wellFormed] using hwf) s)
  | readAbandon r => exact keep h (congrArg _ (abandonRead_queue r p s))
  | prstRecognised r =>
    have hne : p ≠ r := fun e => hi (.inr (.inr (.inl (e ▸ rfl))))
    exact keep h (recogniseReset_haltOnError_of_ne hne s)
  | portInResetEnd r => exact keep h (congrArg _ (endPortReset_queue r p s))
  | powerOnReset => exact absurd (.inr (.inr (.inr rfl))) hi
  | lineTransactionStart => exact keep h (congrArg _ (beginTransaction_queue s p))
  | readTransactionEnd data => exact keep h (finishRead_haltOnError data s p)
  | verifyEnd data => exact keep h (finishVerify_haltOnError data s p)
  | fillTransactionEnd data => exact keep h (finishFill_haltOnError data s p)
  | writeEnableEnd => exact keep h (finishWriteEnable_haltOnError s p)
  | writeEnableCheck status => exact keep h (checkWriteEnable_haltOnError status s p)
  | commandTransactionEnd => exact keep h (finishCommand_haltOnError s p)
  | pollTimerExpiry => exact keep h (congrArg _ (expirePoll_queue s p))
  | pollEnd status => exact keep h (finishPoll_haltOnError status s p)
  | runTimeReachesMinimum => exact keep h (congrArg _ (reachMinimumRun_queue s p))
  | suspendTransactionEnd => exact keep h (finishSuspendTransaction_haltOnError s p)
  | latencyTimerExpiry => exact keep h (congrArg _ (expireLatency_queue s p))
  | handshakeReadEnd status => exact keep h (finishHandshakeRead_haltOnError status s p)
  | dwellTimerExpiry => exact keep h (expireDwell_haltOnError s p)
  | resumeTransactionEnd => exact keep h (finishResumeTransaction_haltOnError s p)
  | resetEnableEnd => exact keep h (finishResetEnable_haltOnError s p)
  | resetDeviceEnd => exact keep h (finishResetDevice_haltOnError s p)
  | recoveryDelayExpiry => exact keep h (congrArg _ (expireRecoveryDelay_queue s p))
  | initializationEnd status => exact keep h (finishInitialization_haltOnError status s p)
  | recoveryEnd status => exact keep h (finishRecovery_haltOnError status s p)
  | stallTimerExpiry r => exact keep h (congrArg _ (expireStall_queue r p s))
  | holdTimerExpiry => exact keep h (expireHold_haltOnError s p)
  | holdoffTimerExpiry r => exact keep h (congrArg _ (expireHoldoff_queue r p s))
  | powerOnResetEnd lowA lowB => exact keep h (congrArg _ (endPowerOn_queue lowA lowB s p))

/-- A port reset and power-on reset turn the mode off. -/
theorem softReset_turns_haltOnError_off (p : Port) (s : State) : ((softReset p s).queue p).haltOnError = false := by
  rw [softReset_haltOnError, if_pos rfl]
theorem recogniseReset_turns_haltOnError_off {p : Port} {s : State} (hp : s.powerOnReset = false)
    (hr : (s.port p).inReset = false) : ((recogniseReset p s).queue p).haltOnError = false := by
  rw [recogniseReset_of_taken hp hr]
  simp [State.portReset_queue, Queue.reset]
theorem powerOn_turns_haltOnError_off (p : Port) (s : State) : ((powerOn s).queue p).haltOnError = false := by cases p <;> rfl

/-- Settles O15: the QMODE write by its two cases, the frame of every other row, and the resets by the ring they leave. -/
theorem haltModeIsFixedOutsideStopped : Obligations.HaltModeIsFixedOutsideStopped := by
  unfold Obligations.HaltModeIsFixedOutsideStopped
  refine ⟨fun p v s htaken => ?_, fun p s => rfl, fun i p s t hwf hexec hchanged => ?_, fun p s => ?_⟩
  · rw [exec_qmodeWrite, State.access_of_taken htaken]
    exact ⟨fun hs => by rw [writeQmode_of_stopped hs], fun hs => by rw [writeQmode_of_not_stopped hs]⟩
  · by_contra hi
    exact hchanged (exec_haltOnError_kept hwf hexec hi)
  · refine ⟨fun htaken => ⟨_, exec_softReset p s, ?_⟩, fun hp hr => ⟨_, exec_prstRecognised p s, ?_⟩, _, rfl, ?_⟩
    · rw [State.access_of_taken htaken]
      exact softReset_turns_haltOnError_off p s
    · exact recogniseReset_turns_haltOnError_off hp hr
    · exact powerOn_turns_haltOnError_off p s

end Sys2Proof.Machine
end

section
/-! SUPPORT. Who moves the configuration authority and the staging records (R157 to R159, R187): what each shared operation and
each row's meaning leaves of them. -/

namespace Sys2Proof.Machine

/-! ### Bus writes -/

/-- A row that is a bus write does what a write of its byte at its offset does (R176, R177, R186). -/
theorem exec_of_busWriteOf {i : Instr} {p : Port} {offset : BitVec 6} {v : Byte} (h : busWriteOf i = some (p, offset, v))
    (s : State) : exec i s = .next (writeWindow p offset v s) := by
  cases i with
  | evflagsWrite q high w => cases high <;> cases h <;> rfl
  | evenableWrite q high w => cases high <;> cases h <;> rfl
  | registerWrite q offset w => cases h; rfl
  | _ => cases h <;> rfl

/-! ### The configuration blocks under the shared operations -/

@[simp] theorem State.setAuthority_authority (s : State) (a : Option Port) : (s.setAuthority a).profile.authority = a := rfl

@[simp] theorem State.modComposer_configuration (s : State) (p : Port) (f : Composer → Composer) :
    (s.modComposer p f).profile = s.profile ∧ (s.modComposer p f).regions = s.regions := ⟨rfl, rfl⟩
@[simp] theorem State.setQueueState_configuration (s : State) (p : Port) (x : QueueState) :
    (s.setQueueState p x).profile = s.profile ∧ (s.setQueueState p x).regions = s.regions := ⟨rfl, rfl⟩
@[simp] theorem State.startResetSequence_configuration (s : State) (x : SeqState) :
    (s.startResetSequence x).profile = s.profile ∧ (s.startResetSequence x).regions = s.regions := ⟨rfl, rfl⟩
@[simp] theorem State.giveBuffer_configuration (s : State) (p : Port) (b : Fin 16) :
    (s.giveBuffer p b).profile = s.profile ∧ (s.giveBuffer p b).regions = s.regions := ⟨rfl, rfl⟩
@[simp] theorem State.beginStall_configuration (s : State) (p : Port) :
    (s.beginStall p).profile = s.profile ∧ (s.beginStall p).regions = s.regions := ⟨rfl, rfl⟩
@[simp] theorem failHandshake_configuration (s : State) :
    (failHandshake s).profile = s.profile ∧ (failHandshake s).regions = s.regions := ⟨rfl, rfl⟩
@[simp] theorem State.enqueue_configuration (s : State) (p : Port) (op : SlotOp) :
    (s.enqueue p op).profile = s.profile ∧ (s.enqueue p op).regions = s.regions := by
  unfold State.enqueue; cases op.buffer <;> exact ⟨rfl, rfl⟩
@[simp] theorem State.flushQueue_configuration (s : State) (p : Port) :
    (s.flushQueue p).profile = s.profile ∧ (s.flushQueue p).regions = s.regions := by simp [State.flushQueue]
@[simp] theorem State.closeByCommit_configuration (s : State) (p : Port) :
    (s.closeByCommit p).profile = s.profile ∧ (s.closeByCommit p).regions = s.regions := by
  unfold State.closeByCommit; simp only; split <;> simp
@[simp] theorem State.dropHold_configuration (s : State) (p : Port) :
    (s.dropHold p).profile = s.profile ∧ (s.dropHold p).regions = s.regions := by
  unfold State.dropHold; split <;> exact ⟨rfl, rfl⟩
@[simp] theorem State.deliverFill_configuration (s : State) (r : OpRecord) (data : List Byte) :
    (s.deliverFill r data).profile = s.profile ∧ (s.deliverFill r data).regions = s.regions := by
  unfold State.deliverFill; split <;> simp
@[simp] theorem evaluateCompletion_configuration (r : OpRecord) (status : Byte) (s : State) :
    (evaluateCompletion r status s).profile = s.profile ∧ (evaluateCompletion r status s).regions = s.regions := by
  unfold evaluateCompletion; split <;> simp
@[simp] theorem timeOut_configuration (r : OpRecord) (s : State) :
    (timeOut r s).profile = s.profile ∧ (timeOut r s).regions = s.regions := by simp [timeOut]
@[simp] theorem confirmSuspension_configuration (r : OpRecord) (s : State) :
    (confirmSuspension r s).profile = s.profile ∧ (confirmSuspension r s).regions = s.regions := by simp [confirmSuspension]

/-! ### What a row can do to the authority and the staging records -/

/-- The three staging records hold their cleared values (R121, R149). -/
def State.StagingCleared (s : State) : Prop :=
  s.profile.staging = Vector.replicate 29 0 ∧ s.regions.staging = Vector.replicate 8 0
    ∧ s.regions.defaultsStaging = Vector.replicate 3 0

/-- `t` has the authority and the staging records of `s`. -/
@[simp] def State.SameStaging (s t : State) : Prop :=
  t.profile.authority = s.profile.authority ∧ t.profile.staging = s.profile.staging ∧ t.regions.staging = s.regions.staging
    ∧ t.regions.defaultsStaging = s.regions.defaultsStaging

/-- From `s` to `t` the authority and the staging records are kept, or a port holds the authority afterwards, or the records
are cleared. -/
inductive StagingStep (s t : State) : Prop where
  | kept (same : s.SameStaging t)
  | held (holder : t.profile.authority ≠ none)
  | cleared (cleared : t.StagingCleared)

theorem StagingStep.then_same {s t u : State} (h : StagingStep s t) (same : t.SameStaging u) : StagingStep s u := by
  obtain ⟨ha, hp, hr, hd⟩ := same
  cases h with
  | kept h =>
    obtain ⟨ga, gp, gr, gd⟩ := h
    exact .kept ⟨ha.trans ga, hp.trans gp, hr.trans gr, hd.trans gd⟩
  | held h => exact .held (ha ▸ h)
  | cleared h => exact .cleared (by unfold State.StagingCleared; rwa [hp, hr, hd])

/-- A step from cleared records under no authority leaves them cleared if it leaves no authority. -/
theorem StagingStep.keeps_cleared {s t : State} (h : StagingStep s t) (hs : s.profile.authority = none → s.StagingCleared)
    (ht : t.profile.authority = none) : t.StagingCleared := by
  cases h with
  | kept h =>
    obtain ⟨ha, hp, hr, hd⟩ := h
    unfold State.StagingCleared
    rw [hp, hr, hd]
    exact hs (ha ▸ ht)
  | held h => exact absurd ht h
  | cleared h => exact h

theorem State.access_stagingStep (s : State) (p : Port) {f : State → State} (h : StagingStep s (f s)) :
    StagingStep s (s.access p f) := by
  rcases s.access_cases p f with e | ⟨-, e⟩ <;> rw [e]
  · exact .kept ⟨rfl, rfl, rfl, rfl⟩
  · exact h

theorem State.command_stagingStep (s : State) (p : Port) {f : State → State × Result} (h : StagingStep s (f s).1) :
    StagingStep s (s.command p f) :=
  s.access_stagingStep p (h.then_same ⟨rfl, rfl, rfl, rfl⟩)

theorem State.onOperationEnd_sameStaging (s : State) (x : SeqState) (t : Transaction) {f : OpRecord → State → State}
    (h : ∀ left r, s.SameStaging (f r (s.lineEnded left))) : s.SameStaging (s.onOperationEnd x t f) := by
  rcases s.onOperationEnd_cases x t f with e | ⟨left, r, -, -, -, e⟩ <;> rw [e]
  · exact ⟨rfl, rfl, rfl, rfl⟩
  · exact h left r

theorem State.onResetEnd_sameStaging (s : State) (t : Transaction) {f : State → State}
    (h : ∀ left, s.SameStaging (f (s.lineEnded left))) : s.SameStaging (s.onResetEnd t f) := by
  rcases s.onResetEnd_cases t f with e | ⟨left, -, -, e⟩ <;> rw [e]
  · exact ⟨rfl, rfl, rfl, rfl⟩
  · exact h left

theorem State.endTransaction_configuration {s t : State} {x : Transaction} (h : s.endTransaction x = some t) :
    t.profile = s.profile ∧ t.regions = s.regions := by
  obtain ⟨left, -, rfl⟩ := (s.endTransaction_eq_some t x).1 h
  exact ⟨rfl, rfl⟩

/-! ### The commands -/

theorem postBody_sameStaging (p : Port) (s : State) : s.SameStaging (postBody p s).1 := by
  unfold postBody; (repeat' split) <;> simp [accept, refuse]
theorem retireBody_sameStaging (p : Port) (s : State) : s.SameStaging (retireBody p s).1 := by
  unfold retireBody; simp only; split <;> simp [accept, refuse]
theorem startBody_sameStaging (p : Port) (s : State) : s.SameStaging (startBody p s).1 := by
  unfold startBody; split <;> simp [accept, refuse]
theorem stopBody_sameStaging (p : Port) (s : State) : s.SameStaging (stopBody p s).1 := by
  unfold stopBody; split <;> simp [accept]
theorem resumeBody_sameStaging (p : Port) (s : State) : s.SameStaging (resumeBody p s).1 := by
  unfold resumeBody; split <;> simp [accept, refuse]
theorem flushBody_sameStaging (p : Port) (s : State) : s.SameStaging (flushBody p s).1 := by
  unfold flushBody; (repeat' split) <;> simp [accept, refuse]
theorem claimBody_sameStaging (p : Port) (s : State) : s.SameStaging (claimBody p s).1 := by
  unfold claimBody; (repeat' split) <;> simp [accept]
theorem releaseBody_sameStaging (p : Port) (s : State) : s.SameStaging (releaseBody p s).1 := by
  unfold releaseBody; (repeat' split) <;> simp [accept, refuse]
theorem openBody_sameStaging (p : Port) (s : State) : s.SameStaging (openBody p s).1 := by
  unfold openBody; simp only; (repeat' split) <;> simp [accept, refuse]
theorem holdRequestBody_sameStaging (p : Port) (s : State) : s.SameStaging (holdRequestBody p s).1 := by
  unfold holdRequestBody; simp only; (repeat' split) <;> simp [accept, refuse]
theorem holdRenewBody_sameStaging (p : Port) (s : State) : s.SameStaging (holdRenewBody p s).1 := by
  unfold holdRenewBody; split <;> simp [accept, refuse]
theorem holdReleaseBody_sameStaging (p : Port) (s : State) : s.SameStaging (holdReleaseBody p s).1 := by
  unfold holdReleaseBody; split <;> simp [accept, refuse]
/-- A profile commit copies the staging record and leaves it (R149, R153). -/
theorem commitProfileBody_sameStaging (p : Port) (s : State) : s.SameStaging (commitProfileBody p s).1 := by
  unfold commitProfileBody; (repeat' split) <;> simp [accept, refuse, State.takeProfile]
theorem commitRegionBody_sameStaging (p : Port) (s : State) : s.SameStaging (commitRegionBody p s).1 := by
  unfold commitRegionBody; simp only; (repeat' split) <;> simp [accept, refuse, State.takeRegion]
theorem commitDefaultsBody_sameStaging (p : Port) (s : State) : s.SameStaging (commitDefaultsBody p s).1 := by
  unfold commitDefaultsBody; (repeat' split) <;> simp [accept, refuse]
theorem clearGlobalCountersBody_sameStaging (p : Port) (s : State) : s.SameStaging (clearGlobalCountersBody p s).1 := by
  unfold clearGlobalCountersBody; split <;> simp [accept, refuse]
theorem recoverBody_sameStaging (s : State) : s.SameStaging (recoverBody s).1 := by
  unfold recoverBody; split <;> simp [accept, refuse]

/-! ### CLAIM_AUTHORITY and RELEASE_AUTHORITY -/

theorem claimAuthorityBody_of_none {s : State} (h : s.profile.authority = none) (p : Port) :
    claimAuthorityBody p s = ((s.setAuthority (some p)).raiseBoth .config, .accepted) := by
  simp [claimAuthorityBody, h, accept]
theorem claimAuthorityBody_of_holder {p : Port} {s : State} (h : s.profile.authority = some p) :
    claimAuthorityBody p s = (s, .accepted) := by simp [claimAuthorityBody, h, accept]
theorem claimAuthorityBody_of_peer {p : Port} {s : State} (h : s.profile.authority = some p.peer) :
    claimAuthorityBody p s = (s, .refusedBusy) := by simp [claimAuthorityBody, h, refuse]

/-- After a claim some port holds the authority: the claimer, or the holder it found. -/
theorem claimAuthorityBody_stagingStep (p : Port) (s : State) : StagingStep s (claimAuthorityBody p s).1 := by
  refine .held ?_
  cases h : s.profile.authority with
  | none => simp [claimAuthorityBody_of_none h]
  | some q =>
    rcases Port.eq_or_peer p q with rfl | rfl
    · simp [claimAuthorityBody_of_holder h, h]
    · simp [claimAuthorityBody_of_peer h, h]

theorem State.clearStaging_cleared (s : State) : s.clearStaging.StagingCleared := ⟨rfl, rfl, rfl⟩

theorem releaseAuthorityBody_stagingStep (p : Port) (s : State) : StagingStep s (releaseAuthorityBody p s).1 := by
  unfold releaseAuthorityBody
  split
  · exact (StagingStep.cleared (s.setAuthority none).clearStaging_cleared).then_same (by simp [accept])
  · exact .kept (by simp [refuse])

/-! ### The resets -/

theorem State.dropAuthority_stagingStep (s : State) (p : Port) : StagingStep s (s.dropAuthority p) := by
  unfold State.dropAuthority
  split
  · exact (StagingStep.cleared (s.setAuthority none).clearStaging_cleared).then_same (by simp)
  · exact .kept (by simp)

theorem State.dropAuthority_configuration_congr {s t : State} (p : Port) (hp : t.profile = s.profile)
    (hr : t.regions = s.regions) :
    (t.dropAuthority p).profile = (s.dropAuthority p).profile ∧ (t.dropAuthority p).regions = (s.dropAuthority p).regions := by
  unfold State.dropAuthority State.hasAuthority
  rw [hp]
  split <;> simp [State.setAuthority, State.clearStaging, hp, hr]

/-- Of the blocks a port reset touches, only the authority's is a configuration block (R159, R181). -/
theorem State.portReset_configuration (s : State) (p : Port) :
    (s.portReset p).profile = (s.dropAuthority p).profile ∧ (s.portReset p).regions = (s.dropAuthority p).regions := by
  unfold State.portReset
  simp only [State.raise_frame]
  split
  · simp only [State.noticeFreed_frame]
    exact State.dropAuthority_configuration_congr p (by simp) (by simp)
  · exact State.dropAuthority_configuration_congr p (by simp) (by simp)

theorem State.portReset_stagingStep (s : State) (p : Port) : StagingStep s (s.portReset p) :=
  (s.dropAuthority_stagingStep p).then_same (by simp [State.portReset_configuration])
theorem softReset_stagingStep (p : Port) (s : State) : StagingStep s (softReset p s) :=
  (s.portReset_stagingStep p).then_same (by simp [softReset])
theorem recogniseReset_stagingStep (p : Port) (s : State) : StagingStep s (recogniseReset p s) := by
  unfold recogniseReset
  split
  · exact .kept (by simp)
  · exact (s.portReset_stagingStep p).then_same (by simp)
theorem endPortReset_sameStaging (p : Port) (s : State) : s.SameStaging (endPortReset p s) := by
  unfold endPortReset; split <;> simp
theorem endPowerOn_sameStaging (lowA lowB : Bool) (s : State) : s.SameStaging (endPowerOn lowA lowB s) := by
  unfold endPowerOn; split <;> simp
theorem powerOn_cleared (s : State) : (powerOn s).StagingCleared := ⟨rfl, rfl, rfl⟩

/-! ### The window's accesses -/

theorem writeQmode_sameStaging (p : Port) (v : Byte) (s : State) : s.SameStaging (writeQmode p v s) := by
  unfold writeQmode; split <;> simp
theorem readBufdata_sameStaging (p : Port) (s : State) : s.SameStaging (readBufdata p s) := by
  unfold readBufdata; split <;> simp
theorem writeBufdata_sameStaging (p : Port) (v : Byte) (s : State) : s.SameStaging (writeBufdata p v s) := by
  unfold writeBufdata; split <;> simp
theorem readApdata_sameStaging (p : Port) (s : State) : s.SameStaging (readApdata p s) := by
  unfold readApdata; simp only; (repeat' split) <;> simp
theorem readCfgdata_sameStaging (p : Port) (s : State) : s.SameStaging (readCfgdata p s) := by simp [readCfgdata]
theorem writePlain_sameStaging (p : Port) (offset : BitVec 6) (v : Byte) (s : State) :
    s.SameStaging (writePlain p offset v s) := by
  unfold writePlain
  (repeat' split) <;> simp

@[simp] theorem State.setStaging_authority (s : State) (x v : Byte) :
    (s.setStaging x v).profile.authority = s.profile.authority := by unfold State.setStaging; split <;> rfl

/-- A write of CFGDATA stores for the authority holder alone (R187). -/
theorem writeCfgdata_stagingStep (p : Port) (v : Byte) (s : State) : StagingStep s (writeCfgdata p v s) := by
  unfold writeCfgdata
  simp only
  split
  · by_cases h : s.hasAuthority p = true
    · have holder : s.profile.authority = some p := by simpa [State.hasAuthority] using h
      rw [if_pos h]
      exact .held (by simp [holder])
    · rw [if_neg h]
      exact .kept (by simp)
  · exact .kept (by simp)

theorem runCommand_stagingStep (p : Port) (c : CommandName) (s : State) : StagingStep s (runCommand p c s) := by
  cases c with
  | post => exact s.command_stagingStep p (.kept (postBody_sameStaging p s))
  | retire => exact s.command_stagingStep p (.kept (retireBody_sameStaging p s))
  | start => exact s.command_stagingStep p (.kept (startBody_sameStaging p s))
  | stop => exact s.command_stagingStep p (.kept (stopBody_sameStaging p s))
  | resume => exact s.command_stagingStep p (.kept (resumeBody_sameStaging p s))
  | flush => exact s.command_stagingStep p (.kept (flushBody_sameStaging p s))
  | claim => exact s.command_stagingStep p (.kept (claimBody_sameStaging p s))
  | release => exact s.command_stagingStep p (.kept (releaseBody_sameStaging p s))
  | openAperture => exact s.command_stagingStep p (.kept (openBody_sameStaging p s))
  | closeAperture => exact s.command_stagingStep p (.kept ⟨rfl, rfl, rfl, rfl⟩)
  | holdRequest => exact s.command_stagingStep p (.kept (holdRequestBody_sameStaging p s))
  | holdRenew => exact s.command_stagingStep p (.kept (holdRenewBody_sameStaging p s))
  | holdRelease => exact s.command_stagingStep p (.kept (holdReleaseBody_sameStaging p s))
  | claimAuthority => exact s.command_stagingStep p (claimAuthorityBody_stagingStep p s)
  | releaseAuthority => exact s.command_stagingStep p (releaseAuthorityBody_stagingStep p s)
  | commitProfile => exact s.command_stagingStep p (.kept (commitProfileBody_sameStaging p s))
  | commitRegion => exact s.command_stagingStep p (.kept (commitRegionBody_sameStaging p s))
  | commitDefaults => exact s.command_stagingStep p (.kept (commitDefaultsBody_sameStaging p s))
  | clearGlobalCounters => exact s.command_stagingStep p (.kept (clearGlobalCountersBody_sameStaging p s))
  | recover => exact s.command_stagingStep p (.kept (recoverBody_sameStaging s))
  | clearCounters => exact s.command_stagingStep p (.kept ⟨rfl, rfl, rfl, rfl⟩)
  | softReset => exact s.access_stagingStep p (softReset_stagingStep p s)

theorem writeCommand_stagingStep (p : Port) (code : Byte) (s : State) : StagingStep s (writeCommand p code s) := by
  unfold writeCommand
  split
  · exact runCommand_stagingStep p _ s
  · exact s.command_stagingStep p (.kept ⟨rfl, rfl, rfl, rfl⟩)

/-- Every bus write: CMD and CFGDATA as their rows, the offsets that store elsewhere as plain writes. -/
theorem writeWindow_stagingStep (p : Port) (offset : BitVec 6) (v : Byte) (s : State) :
    StagingStep s (writeWindow p offset v s) := by
  unfold writeWindow
  split
  · exact writeCommand_stagingStep p v s
  · exact s.access_stagingStep p (.kept (writeQmode_sameStaging p v s))
  · exact s.access_stagingStep p (.kept (writeBufdata_sameStaging p v s))
  iterate 4 exact s.access_stagingStep p (.kept ⟨rfl, rfl, rfl, rfl⟩)
  · exact s.access_stagingStep p (writeCfgdata_stagingStep p v s)
  · exact s.access_stagingStep p (.kept (writePlain_sameStaging p offset v s))

/-! ### Timers and the line -/

theorem abandonRead_sameStaging (p : Port) (s : State) : s.SameStaging (abandonRead p s) := by
  unfold abandonRead; split <;> simp
theorem expireStall_sameStaging (p : Port) (s : State) : s.SameStaging (expireStall p s) := by
  rcases expireStall_cases p s with e | ⟨-, -, e⟩ <;> simp [e]
theorem expireHoldoff_sameStaging (p : Port) (s : State) : s.SameStaging (expireHoldoff p s) := by
  rcases expireHoldoff_cases p s with e | ⟨-, e⟩ <;> simp [e]
theorem expireHold_sameStaging (s : State) : s.SameStaging (expireHold s) := by
  rcases expireHold_cases s with e | ⟨p, -, -, e⟩ <;> simp [e]
theorem beginTransaction_sameStaging (s : State) : s.SameStaging (beginTransaction s) := by
  unfold beginTransaction; split <;> simp
theorem expirePoll_sameStaging (s : State) : s.SameStaging (expirePoll s) := by
  unfold expirePoll; (repeat' split) <;> simp
theorem expireLatency_sameStaging (s : State) : s.SameStaging (expireLatency s) := by
  unfold expireLatency; (repeat' split) <;> simp
theorem expireRecoveryDelay_sameStaging (s : State) : s.SameStaging (expireRecoveryDelay s) := by
  unfold expireRecoveryDelay; (repeat' split) <;> simp
theorem expireDwell_sameStaging (s : State) : s.SameStaging (expireDwell s) := by
  unfold expireDwell; simp only; (repeat' split) <;> simp
theorem reachMinimumRun_sameStaging (s : State) : s.SameStaging (reachMinimumRun s) := by
  unfold reachMinimumRun; (repeat' split) <;> simp

/-! ### The sequencer's rows -/

theorem finishRead_sameStaging (data : List Byte) (s : State) : s.SameStaging (finishRead data s) := by
  refine s.onOperationEnd_sameStaging _ _ fun left r => ?_
  split
  · cases r.buffer <;> simp
  · simp
theorem finishVerify_sameStaging (data : List Byte) (s : State) : s.SameStaging (finishVerify data s) := by
  refine s.onOperationEnd_sameStaging _ _ fun left r => ?_
  split <;> simp
theorem finishFill_sameStaging (data : List Byte) (s : State) : s.SameStaging (finishFill data s) := by
  refine s.onOperationEnd_sameStaging _ _ fun left r => ?_
  split <;> simp
theorem finishWriteEnable_sameStaging (s : State) : s.SameStaging (finishWriteEnable s) :=
  s.onOperationEnd_sameStaging _ _ fun left r => by simp
theorem checkWriteEnable_sameStaging (status : Byte) (s : State) : s.SameStaging (checkWriteEnable status s) := by
  refine s.onOperationEnd_sameStaging _ _ fun left r => ?_
  split <;> simp
theorem finishCommand_sameStaging (s : State) : s.SameStaging (finishCommand s) :=
  s.onOperationEnd_sameStaging _ _ fun left r => by simp
theorem finishPoll_sameStaging (status : Byte) (s : State) : s.SameStaging (finishPoll status s) := by
  refine s.onOperationEnd_sameStaging _ _ fun left r => ?_
  (repeat' split) <;> simp
theorem finishSuspendTransaction_sameStaging (s : State) : s.SameStaging (finishSuspendTransaction s) :=
  s.onOperationEnd_sameStaging _ _ fun left r => by simp
theorem finishHandshakeRead_sameStaging (status : Byte) (s : State) : s.SameStaging (finishHandshakeRead status s) := by
  refine s.onOperationEnd_sameStaging _ _ fun left r => ?_
  simp only
  (repeat' split) <;> simp
theorem finishResumeTransaction_sameStaging (s : State) : s.SameStaging (finishResumeTransaction s) :=
  s.onOperationEnd_sameStaging _ _ fun left r => by simp
theorem finishResetEnable_sameStaging (s : State) : s.SameStaging (finishResetEnable s) :=
  s.onResetEnd_sameStaging _ fun left => by simp
theorem finishResetDevice_sameStaging (s : State) : s.SameStaging (finishResetDevice s) :=
  s.onResetEnd_sameStaging _ fun left => by simp
theorem finishInitialization_sameStaging (status : Byte) (s : State) : s.SameStaging (finishInitialization status s) := by
  unfold finishInitialization
  split
  · next t h => (repeat' split) <;> simp [State.endTransaction_configuration h]
  · simp
theorem finishRecovery_sameStaging (status : Byte) (s : State) : s.SameStaging (finishRecovery status s) := by
  unfold finishRecovery
  split
  · next t h => (repeat' split) <;> simp [State.endTransaction_configuration h]
  · simp

/-! ### Every row -/

theorem stagingStep_of_next {s t u : State} (h : (.next u : Host.Outcome State Fault Refusal) = .next t)
    (hu : StagingStep s u) : StagingStep s t := Host.Outcome.next.inj h ▸ hu

/-- No row clears the authority and leaves a staged byte: it keeps both, or leaves a holder, or clears the records. -/
theorem exec_stagingStep {i : Instr} {s t : State} (h : exec i s = .next t) : StagingStep s t := by
  cases hbus : busWriteOf i with
  | some w => exact stagingStep_of_next ((exec_of_busWriteOf hbus s).symm.trans h) (writeWindow_stagingStep _ _ _ s)
  | none =>
    have keep {u : State} (e : (.next u : Host.Outcome State Fault Refusal) = .next t) (same : s.SameStaging u) :
        StagingStep s t := stagingStep_of_next e (.kept same)
    cases i with
    | bufdataRead p => exact stagingStep_of_next h (s.access_stagingStep p (.kept (readBufdata_sameStaging p s)))
    | apdataRead p => exact stagingStep_of_next h (s.access_stagingStep p (.kept (readApdata_sameStaging p s)))
    | cfgdataRead p => exact stagingStep_of_next h (s.access_stagingStep p (.kept (readCfgdata_sameStaging p s)))
    | readAbandon p => exact keep h (abandonRead_sameStaging p s)
    | prstRecognised p => exact stagingStep_of_next h (recogniseReset_stagingStep p s)
    | portInResetEnd p => exact keep h (endPortReset_sameStaging p s)
    | powerOnReset => exact stagingStep_of_next h (.cleared (powerOn_cleared s))
    | lineTransactionStart => exact keep h (beginTransaction_sameStaging s)
    | readTransactionEnd data => exact keep h (finishRead_sameStaging data s)
    | verifyEnd data => exact keep h (finishVerify_sameStaging data s)
    | fillTransactionEnd data => exact keep h (finishFill_sameStaging data s)
    | writeEnableEnd => exact keep h (finishWriteEnable_sameStaging s)
    | writeEnableCheck status => exact keep h (checkWriteEnable_sameStaging status s)
    | commandTransactionEnd => exact keep h (finishCommand_sameStaging s)
    | pollTimerExpiry => exact keep h (expirePoll_sameStaging s)
    | pollEnd status => exact keep h (finishPoll_sameStaging status s)
    | runTimeReachesMinimum => exact keep h (reachMinimumRun_sameStaging s)
    | suspendTransactionEnd => exact keep h (finishSuspendTransaction_sameStaging s)
    | latencyTimerExpiry => exact keep h (expireLatency_sameStaging s)
    | handshakeReadEnd status => exact keep h (finishHandshakeRead_sameStaging status s)
    | dwellTimerExpiry => exact keep h (expireDwell_sameStaging s)
    | resumeTransactionEnd => exact keep h (finishResumeTransaction_sameStaging s)
    | resetEnableEnd => exact keep h (finishResetEnable_sameStaging s)
    | resetDeviceEnd => exact keep h (finishResetDevice_sameStaging s)
    | recoveryDelayExpiry => exact keep h (expireRecoveryDelay_sameStaging s)
    | initializationEnd status => exact keep h (finishInitialization_sameStaging status s)
    | recoveryEnd status => exact keep h (finishRecovery_sameStaging status s)
    | stallTimerExpiry p => exact keep h (expireStall_sameStaging p s)
    | holdTimerExpiry => exact keep h (expireHold_sameStaging s)
    | holdoffTimerExpiry p => exact keep h (expireHoldoff_sameStaging p s)
    | powerOnResetEnd lowA lowB => exact keep h (endPowerOn_sameStaging lowA lowB s)
    | _ => cases hbus

/-! ### The table of R157 -/

theorem exec_claimAuthority {p : Port} {s : State} (h : s.accessTaken p = true) :
    exec (.claimAuthority p) s = .next ((claimAuthorityBody p s).1.setResult p (claimAuthorityBody p s).2) :=
  congrArg _ (State.command_of_taken h _)

/-- The state after a claim that finds no holder. -/
def State.claimedBy (s : State) (p : Port) : State := ((s.setAuthority (some p)).raiseBoth .config).setResult p .accepted

theorem exec_claimAuthority_of_none {p : Port} {s : State} (h : s.accessTaken p = true) (hnone : s.profile.authority = none) :
    exec (.claimAuthority p) s = .next (s.claimedBy p) := by
  rw [exec_claimAuthority h, claimAuthorityBody_of_none hnone]; rfl
theorem exec_claimAuthority_of_holder {p : Port} {s : State} (h : s.accessTaken p = true)
    (hown : s.profile.authority = some p) : exec (.claimAuthority p) s = .next (s.setResult p .accepted) := by
  rw [exec_claimAuthority h, claimAuthorityBody_of_holder hown]
theorem exec_claimAuthority_of_peer {p : Port} {s : State} (h : s.accessTaken p = true)
    (hpeer : s.profile.authority = some p.peer) : exec (.claimAuthority p) s = .next (s.setResult p .refusedBusy) := by
  rw [exec_claimAuthority h, claimAuthorityBody_of_peer hpeer]

theorem State.claimedBy_authority (s : State) (p : Port) : (s.claimedBy p).profile.authority = some p := by
  simp [State.claimedBy]
theorem State.claimedBy_result (s : State) (p : Port) : ((s.claimedBy p).port p).result = .accepted :=
  State.setResult_result_self _ p _
/-- A claim does not stop either port's accesses. -/
theorem State.claimedBy_accessTaken (s : State) (p q : Port) : (s.claimedBy p).accessTaken q = s.accessTaken q := by
  simp [State.claimedBy, State.accessTaken]

/-! ### PSTAT -/

theorem QueueState.code_bit6 (x : QueueState) : x.code.getLsbD 6 = false := by cases x <;> rfl
theorem ApertureState.code_bit6 (x : ApertureState) : (x.code <<< 2).getLsbD 6 = false := by cases x <;> rfl
theorem HoldState.code_bit6 (x : HoldState) : (x.code <<< 4).getLsbD 6 = false := by cases x <;> rfl
theorem flagByte_bit6 (b : Bool) : (flagByte b 6).getLsbD 6 = b := by cases b <;> rfl

/-- The three codes below it leave bit 6 of PSTAT to the authority. -/
theorem State.pstat_bit6 (s : State) (p : Port) : (s.pstat p).getLsbD 6 = s.hasAuthority p := by
  simp only [State.pstat, BitVec.getLsbD_or, QueueState.code_bit6, ApertureState.code_bit6, HoldState.code_bit6, flagByte_bit6,
    Bool.false_or]

/-- Settles O24: a claim by the three cases of the authority it finds, bit 6 of PSTAT, and the cleared records by what every
row can do to them. -/
theorem authorityHasOneHolder : Obligations.AuthorityHasOneHolder := by
  unfold Obligations.AuthorityHasOneHolder
  refine ⟨fun p s htaken => ⟨exec_claimAuthority_of_none htaken, exec_claimAuthority_of_holder htaken,
    exec_claimAuthority_of_peer htaken⟩, fun p s t htaken hpeer hnone hfirst => ?_, fun p s => s.pstat_bit6 p,
    fun s => ⟨_, rfl, rfl⟩, fun i s t hs hexec => (exec_stagingStep hexec).keeps_cleared hs⟩
  obtain rfl := Host.Outcome.next.inj ((exec_claimAuthority_of_none htaken hnone).symm.trans hfirst)
  refine ⟨s.claimedBy_result p, exec_claimAuthority_of_peer ?_ ?_⟩
  · rw [State.claimedBy_accessTaken, hpeer]
  · rw [State.claimedBy_authority, Port.peer_peer]

end Sys2Proof.Machine
end

section
/-! SUPPORT. The two clears of R171: what each does to the counters, and what an increment before or after it leaves. -/

namespace Sys2Proof.Machine

/-! ### The increments (R169, R170) -/

@[simp] theorem saturatingInc_zero : saturatingInc 0#8 = 1#8 := by decide

/-- A port out of reset counts its errors. -/
theorem State.countError_errCnt {s : State} {p : Port} (h : (s.port p).inReset = false) :
    ((s.countError p).events p).errCnt = saturatingInc (s.events p).errCnt := by
  rw [State.countError, State.notify_events, if_pos ⟨rfl, h⟩]

/-- A port out of reset counts its denials. -/
theorem State.countDenial_denyCnt {s : State} {p : Port} (h : (s.port p).inReset = false) :
    ((s.countDenial p).events p).denyCnt = saturatingInc (s.events p).denyCnt := by
  rw [State.countDenial, State.notify_events, if_pos ⟨rfl, h⟩]

/-! ### CLEAR_COUNTERS -/

/-- The state after port `p`'s CLEAR_COUNTERS. -/
def State.countersCleared (s : State) (p : Port) : State :=
  s.modPort p fun x => { x with events := { x.events with errCnt := 0, denyCnt := 0 }, result := .accepted }

@[simp] theorem State.countersCleared_errCnt (s : State) (p : Port) : ((s.countersCleared p).events p).errCnt = 0 := by
  simp [State.countersCleared, State.events]
@[simp] theorem State.countersCleared_denyCnt (s : State) (p : Port) : ((s.countersCleared p).events p).denyCnt = 0 := by
  simp [State.countersCleared, State.events]
@[simp] theorem State.countersCleared_inReset (s : State) (p : Port) :
    ((s.countersCleared p).port p).inReset = (s.port p).inReset := by
  simp [State.countersCleared]

theorem State.modPort_modPort (s : State) (p : Port) (f g : PortState → PortState) :
    (s.modPort p f).modPort p g = s.modPort p fun x => g (f x) := by
  cases p <;> rfl

/-- Clearing the two counters and writing RESULT are one change of the port's record. -/
theorem clearCountersBody_setResult (p : Port) (s : State) :
    (clearCountersBody p s).1.setResult p (clearCountersBody p s).2 = s.countersCleared p :=
  s.modPort_modPort p (fun x => { x with events := { x.events with errCnt := 0, denyCnt := 0 } })
    fun x => { x with result := .accepted }
theorem exec_clearCounters {p : Port} {s : State} (h : s.accessTaken p = true) :
    exec (.clearCounters p) s = .next (s.countersCleared p) :=
  congrArg _ ((State.command_of_taken h _).trans (clearCountersBody_setResult p s))

/-! An increment of a port's counter after the clear leaves it at 1. -/

theorem State.countersCleared_countError {s : State} {p : Port} (h : (s.port p).inReset = false) :
    (((s.countersCleared p).countError p).events p).errCnt = 1 := by
  have hkept : ((s.countersCleared p).port p).inReset = false := (s.countersCleared_inReset p).trans h
  simp [State.countError_errCnt hkept]
theorem State.countersCleared_countDenial {s : State} {p : Port} (h : (s.port p).inReset = false) :
    (((s.countersCleared p).countDenial p).events p).denyCnt = 1 := by
  have hkept : ((s.countersCleared p).port p).inReset = false := (s.countersCleared_inReset p).trans h
  simp [State.countDenial_denyCnt hkept]

/-! ### CLEAR_GLOBAL_COUNTERS -/

/-- The state after CLEAR_GLOBAL_COUNTERS by port `p`, the holder of the authority. -/
def State.globalCountersCleared (s : State) (p : Port) : State :=
  ({ s with counters := { suspCnt := 0, toCnt := 0, recFail := 0 } } : State).setResult p .accepted

@[simp] theorem State.globalCountersCleared_counters (s : State) (p : Port) :
    (s.globalCountersCleared p).counters = { suspCnt := 0, toCnt := 0, recFail := 0 } := rfl

theorem clearGlobalCountersBody_of_holder {p : Port} {s : State} (h : s.profile.authority = some p) :
    clearGlobalCountersBody p s = ({ s with counters := { suspCnt := 0, toCnt := 0, recFail := 0 } }, .accepted) := by
  simp [clearGlobalCountersBody, State.hasAuthority, h, accept]
theorem clearGlobalCountersBody_of_not_holder {p : Port} {s : State} (h : s.profile.authority ≠ some p) :
    clearGlobalCountersBody p s = (s, .refusedAuthority) := by
  simp [clearGlobalCountersBody, State.hasAuthority, h, refuse]

theorem exec_clearGlobalCounters {p : Port} {s : State} (h : s.accessTaken p = true) :
    exec (.clearGlobalCounters p) s
      = .next ((clearGlobalCountersBody p s).1.setResult p (clearGlobalCountersBody p s).2) :=
  congrArg _ (State.command_of_taken h _)
theorem exec_clearGlobalCounters_of_holder {p : Port} {s : State} (h : s.accessTaken p = true)
    (hown : s.profile.authority = some p) : exec (.clearGlobalCounters p) s = .next (s.globalCountersCleared p) := by
  rw [exec_clearGlobalCounters h, clearGlobalCountersBody_of_holder hown]; rfl
theorem exec_clearGlobalCounters_of_not_holder {p : Port} {s : State} (h : s.accessTaken p = true)
    (hother : s.profile.authority ≠ some p) : exec (.clearGlobalCounters p) s = .next (s.setResult p .refusedAuthority) := by
  rw [exec_clearGlobalCounters h, clearGlobalCountersBody_of_not_holder hother]

/-! An increment of a global counter after the clear leaves it at 1 and the other two at 0. -/

theorem State.globalCountersCleared_countSuspension (s : State) (p : Port) :
    (s.globalCountersCleared p).countSuspension.counters = { suspCnt := 1, toCnt := 0, recFail := 0 } := by
  simp [State.countSuspension]
theorem State.globalCountersCleared_countTimeout (s : State) (p : Port) :
    (s.globalCountersCleared p).countTimeout.counters = { suspCnt := 0, toCnt := 1, recFail := 0 } := by
  simp [State.countTimeout]
theorem State.globalCountersCleared_countRecoveryFailure (s : State) (p : Port) :
    (s.globalCountersCleared p).countRecoveryFailure.counters = { suspCnt := 0, toCnt := 0, recFail := 1 } := by
  simp [State.countRecoveryFailure]

/-- Settles O32: the three outcomes of the two commands, then each counter with the increment after the clear and with the
increment before it. -/
theorem countersAreCleared : Obligations.CountersAreCleared := by
  unfold Obligations.CountersAreCleared
  intro p s htaken
  have hreset : (s.port p).inReset = false := State.accessTaken_inReset htaken
  exact ⟨exec_clearCounters htaken, exec_clearGlobalCounters_of_holder htaken, exec_clearGlobalCounters_of_not_holder htaken,
    State.countersCleared_countError hreset, State.countersCleared_countDenial hreset,
    (s.countError p).countersCleared_errCnt p, (s.countDenial p).countersCleared_denyCnt p,
    s.globalCountersCleared_countSuspension p, s.globalCountersCleared_countTimeout p,
    s.globalCountersCleared_countRecoveryFailure p,
    s.countSuspension.globalCountersCleared_counters p, s.countTimeout.globalCountersCleared_counters p,
    s.countRecoveryFailure.globalCountersCleared_counters p⟩

end Sys2Proof.Machine
end

section
/-! SUPPORT. The part of the state that the invariants read: two states with the same core satisfy the same invariants. -/

namespace Sys2Proof.Machine

/-- A queue without its settings: the ring, its indices and the queue state. -/
def Queue.ring (q : Queue) : Queue := { q with haltOnError := false, composer := .reset }

/-- An aperture without its settings: what R97 keeps of the stream. -/
def Aperture.stream (a : Aperture) : Aperture := { a with policy := .stall, limit := 0, apaddr := 0 }

/-- A port's record with only its ring and its stream. -/
def PortState.core (x : PortState) : PortState :=
  { PortState.reset with queue := x.queue.ring, aperture := x.aperture.stream }

/-- The state with everything that no invariant of the queues, buffers, apertures, hold or sequencer reads at its reset value:
results, event units, window fields, buffer bytes, pointers, regions, staging, counters. -/
def State.core (s : State) : State :=
  { State.reset with
    ports := ⟨s.ports.a.core, s.ports.b.core⟩
    pool := { Pool.reset with holders := s.pool.holders }
    seq := s.seq
    arbiter := { s.arbiter with readPointer := .A, writePointer := .A }
    hold := { s.hold with duration := 0 }
    profile := { ProfileUnit.reset with committed := s.profile.committed } }

/-! ### What the core shows -/

@[simp] theorem State.core_seq (s : State) : s.core.seq = s.seq := rfl
@[simp] theorem State.core_holdOf (s : State) (p : Port) : s.core.holdOf p = s.holdOf p := rfl
@[simp] theorem State.core_holdTimer (s : State) : s.core.hold.timer = s.hold.timer := rfl
@[simp] theorem State.core_holder (s : State) (b : Fin 16) : s.core.holder b = s.holder b := rfl
@[simp] theorem State.core_suspendRequest (s : State) : s.core.arbiter.suspendRequest = s.arbiter.suspendRequest := rfl
@[simp] theorem State.core_resumeDue (s : State) : s.core.arbiter.resumeDue = s.arbiter.resumeDue := rfl
@[simp] theorem State.core_committed (s : State) : s.core.profile.committed = s.profile.committed := rfl
@[simp] theorem State.core_prof (s : State) : s.core.prof = s.prof := rfl
@[simp] theorem State.core_capacity (s : State) : s.core.capacity = s.capacity := rfl
@[simp] theorem State.core_drained (s : State) (p : Port) : s.core.drained p = s.drained p := rfl
theorem State.core_port (s : State) (p : Port) : s.core.port p = (s.port p).core := by cases p <;> rfl
@[simp] theorem State.core_queue (s : State) (p : Port) : s.core.queue p = (s.queue p).ring := by cases p <;> rfl
@[simp] theorem State.core_aperture (s : State) (p : Port) : s.core.aperture p = (s.aperture p).stream := by cases p <;> rfl
@[simp] theorem PortState.core_core (x : PortState) : x.core.core = x.core := rfl
@[simp] theorem State.core_core (s : State) : s.core.core = s.core := rfl
@[simp] theorem State.core_elapse (s : State) (d : Nat) : (s.core.elapse d).core = (s.elapse d).core := rfl

section
variable {s t : State}

theorem State.seq_of_core (h : t.core = s.core) : t.seq = s.seq :=
  congrArg (fun x => x.seq) h
theorem State.suspendRequest_of_core (h : t.core = s.core) : t.arbiter.suspendRequest = s.arbiter.suspendRequest :=
  congrArg (fun x => x.arbiter.suspendRequest) h
theorem State.resumeDue_of_core (h : t.core = s.core) : t.arbiter.resumeDue = s.arbiter.resumeDue :=
  congrArg (fun x => x.arbiter.resumeDue) h
theorem State.generation_of_core (h : t.core = s.core) (p : Port) :
    (t.aperture p).generation = (s.aperture p).generation := by
  have := congrArg (fun x => (x.aperture p).generation) h
  simpa [Aperture.stream] using this

theorem State.elapse_core_congr (h : t.core = s.core) (d : Nat) : (t.elapse d).core = (s.elapse d).core := by
  rw [← State.core_elapse, h, State.core_elapse]

end

/-! ### Updates outside the core -/

theorem State.modPort_core_of_kept (s : State) (p : Port) {f : PortState → PortState} (h : ∀ x, (f x).core = x.core) :
    (s.modPort p f).core = s.core := by
  cases p <;> simp [State.core, State.modPort, Both.set, Both.get, h]

@[simp] theorem State.setResult_core (s : State) (p : Port) (r : Result) : (s.setResult p r).core = s.core :=
  s.modPort_core_of_kept p fun _ => rfl
@[simp] theorem State.drive_core (s : State) (p : Port) (d : Option Byte) : (s.drive p d).core = s.core :=
  s.modPort_core_of_kept p fun _ => rfl
@[simp] theorem State.setInReset_core (s : State) (p : Port) (b : Bool) : (s.setInReset p b).core = s.core :=
  s.modPort_core_of_kept p fun _ => rfl
@[simp] theorem State.markRefused_core (s : State) (p : Port) : (s.markRefused p).core = s.core :=
  s.modPort_core_of_kept p fun _ => rfl
@[simp] theorem State.advanceBufOfs_core (s : State) (p : Port) : (s.advanceBufOfs p).core = s.core :=
  s.modPort_core_of_kept p fun _ => rfl
@[simp] theorem State.advanceCfgIdx_core (s : State) (p : Port) : (s.advanceCfgIdx p).core = s.core :=
  s.modPort_core_of_kept p fun _ => rfl
@[simp] theorem State.notify_core (s : State) (p : Port) (f : EventUnit → EventUnit) : (s.notify p f).core = s.core := by
  unfold State.notify
  split
  · rfl
  · exact s.modPort_core_of_kept p fun _ => rfl
@[simp] theorem State.raise_core (s : State) (p : Port) (f : Flag) : (s.raise p f).core = s.core := s.notify_core p _
@[simp] theorem State.raiseBoth_core (s : State) (f : Flag) : (s.raiseBoth f).core = s.core := by simp [State.raiseBoth]
@[simp] theorem State.apertureCause_core (s : State) (p : Port) (c : ApCause) : (s.apertureCause p c).core = s.core :=
  s.notify_core p _
@[simp] theorem State.holdCause_core (s : State) (p : Port) (c : HoldCause) : (s.holdCause p c).core = s.core :=
  s.notify_core p _
@[simp] theorem State.recoveryCause_core (s : State) (c : RecCause) : (s.recoveryCause c).core = s.core := by
  simp [State.recoveryCause]
@[simp] theorem State.countError_core (s : State) (p : Port) : (s.countError p).core = s.core := s.notify_core p _
@[simp] theorem State.countDenial_core (s : State) (p : Port) : (s.countDenial p).core = s.core := s.notify_core p _
@[simp] theorem State.countCompletions_core (s : State) (p : Port) (k : Nat) : (s.countCompletions p k).core = s.core := by
  unfold State.countCompletions; split <;> simp
@[simp] theorem State.noticeFreed_core (s : State) (p : Port) : (s.noticeFreed p).core = s.core := by
  unfold State.noticeFreed
  split
  · rw [State.raise_core]; exact s.modPort_core_of_kept p fun _ => rfl
  · rfl
@[simp] theorem State.buffersFreed_core (s : State) : s.buffersFreed.core = s.core := by simp [State.buffersFreed]
@[simp] theorem State.freeBuffer_core (s : State) (b : Fin 16) : (s.freeBuffer b).core = (s.setHolder b .free).core := by
  simp [State.freeBuffer]
@[simp] theorem State.setBuffer_core (s : State) (b : Fin 16) (v : Vector Byte 256) : (s.setBuffer b v).core = s.core := rfl
@[simp] theorem State.setAuthority_core (s : State) (a : Option Port) : (s.setAuthority a).core = s.core := rfl
@[simp] theorem State.clearStaging_core (s : State) : s.clearStaging.core = s.core := rfl
@[simp] theorem State.setStaging_core (s : State) (x v : Byte) : (s.setStaging x v).core = s.core := by
  unfold State.setStaging; split <;> rfl
@[simp] theorem State.takeRegion_core (s : State) (n : Fin 16) : (s.takeRegion n).core = s.core := rfl
@[simp] theorem State.moveReadPointer_core (s : State) (p : Port) : (s.moveReadPointer p).core = s.core := rfl
@[simp] theorem State.moveWritePointer_core (s : State) (p : Port) : (s.moveWritePointer p).core = s.core := rfl
@[simp] theorem State.setDuration_core (s : State) (d : Byte) : (s.setDuration d).core = s.core := rfl
@[simp] theorem State.modComposer_core (s : State) (p : Port) (f : Composer → Composer) : (s.modComposer p f).core = s.core :=
  s.modPort_core_of_kept p fun _ => rfl
@[simp] theorem State.countSuspension_core (s : State) : s.countSuspension.core = s.core := rfl
@[simp] theorem State.countTimeout_core (s : State) : s.countTimeout.core = s.core := rfl
@[simp] theorem State.countRecoveryFailure_core (s : State) : s.countRecoveryFailure.core = s.core := rfl

/-! ### Updates of the core commute with it -/

theorem State.setHolder_core_congr {s t : State} (h : t.core = s.core) (b : Fin 16) (x : Holder) :
    (t.setHolder b x).core = (s.setHolder b x).core :=
  congrArg (fun u => (u.setHolder b x).core) h
theorem State.modSeq_core_congr {s t : State} (h : t.core = s.core) (f : Sequencer → Sequencer) :
    (t.modSeq f).core = (s.modSeq f).core :=
  congrArg (fun u => (u.modSeq f).core) h
theorem State.setHold_core_congr {s t : State} (h : t.core = s.core) (p : Port) (x : HoldState) :
    (t.setHold p x).core = (s.setHold p x).core :=
  congrArg (fun u => (u.setHold p x).core) h
theorem State.setHoldTimer_core_congr {s t : State} (h : t.core = s.core) (x : Timer) :
    (t.setHoldTimer x).core = (s.setHoldTimer x).core :=
  congrArg (fun u => (u.setHoldTimer x).core) h

end Sys2Proof.Machine
end

section
/-! SUPPORT. What a row does to the core: time passes, one event takes place, and the arbiter may consider what results. -/

namespace Sys2Proof.Machine

/-! ### The events -/

/-- What an operation keeps while it is on the device: all but its counts, times and marks. -/
def OpRecord.identity (r : OpRecord) : OpRecord :=
  { r with suspends := 0, unsuspendable := false, busyTime := 0, runTime := 0, mismatch := none }

/-- The sequencer's own transitions that leave its two records in place (the table of sequencer states, R37 to R55): from the
sequencer and the arbiter of `s` to those given. -/
inductive SeqMove (s : State) : Sequencer → Arbiter → Prop where
  /-- LINE_TRANSACTION_START. -/
  | begun {t : Transaction} {n : Nat} (line : s.seq.line = .called t) :
      SeqMove s { s.seq with line := .onLine t n } s.arbiter
  /-- WRITE_ENABLE or the latch check is over, and the next transaction of the write is called for (R37). -/
  | writeGoesOn {t : Transaction} {g : Nat} (state : s.seq.state = .writing)
      (next : t = .writeEnableCheck ∨ t = .command) : SeqMove s { s.seq with line := .called t, gap := g } s.arbiter
  /-- The command or the RESUME transaction is over (R38, R49). -/
  | busyPhase {f : OpRecord → OpRecord} {g n : Nat} (state : s.seq.state = .writing ∨ s.seq.state = .resuming)
      (times : ∀ r, ∃ b, f r = { r with busyTime := b, runTime := 0 }) :
      SeqMove s { s.seq with line := .idle, gap := g, active := s.seq.active.map f, state := .busyWait,
                             pollTimer := some n } s.arbiter
  /-- The poll timer expires (R39). -/
  | pollCalled (state : s.seq.state = .busyWait) (timer : s.seq.pollTimer.isSome = true) :
      SeqMove s { s.seq with line := .called .poll, pollTimer := none } s.arbiter
  /-- A poll lets the operation go on (R39). -/
  | pollAgain {g n : Nat} (state : s.seq.state = .busyWait) (request : s.arbiter.suspendRequest = false) :
      SeqMove s { s.seq with line := .idle, gap := g, pollTimer := some n } s.arbiter
  /-- A poll finds a suspend request (R43). -/
  | requestTaken {g : Nat} (state : s.seq.state = .busyWait) (request : s.arbiter.suspendRequest = true) :
      SeqMove s { s.seq with line := .called .suspend, gap := g, state := .suspending, pollTimer := none,
                             handshakeReads := 0 } { s.arbiter with suspendRequest := false }
  /-- The SUSPEND transaction, or a handshake read that finds the device busy, is over (R44). -/
  | latencyStarted {g n k : Nat} (state : s.seq.state = .suspending) :
      SeqMove s { s.seq with line := .idle, gap := g, latencyTimer := some n, handshakeReads := k } s.arbiter
  /-- The latency timer expires (R44). -/
  | handshakeCalled (state : s.seq.state = .suspending) :
      SeqMove s { s.seq with line := .called .handshake, latencyTimer := none } s.arbiter
  /-- The eighth handshake read finds the device busy (R47). -/
  | handshakeFailed {g n k : Nat} (state : s.seq.state = .suspending) (line : s.seq.line.carried = some .handshake) :
      SeqMove s { s.seq with line := .idle, gap := g, handshakeReads := k, state := .busyWait, pollTimer := some n,
                             active := s.seq.active.map fun r => { r with unsuspendable := true } } s.arbiter
  /-- RECOVER (R54). -/
  | resetStarted {t : Transaction} (state : s.seq.state = .fault) (first : t = .resetEnable ∨ t = .resetDevice) :
      SeqMove s { s.seq with state := .recovering, line := .called t } s.arbiter
  /-- RESET_ENABLE is over (R52). -/
  | resetEnabled {g : Nat} (resetting : s.seq.state.resetting = true) (line : s.seq.line.carried = some .resetEnable) :
      SeqMove s { s.seq with line := .called .resetDevice, gap := g } s.arbiter
  /-- RESET_DEVICE is over (R52). -/
  | delayStarted {g n : Nat} (resetting : s.seq.state.resetting = true) :
      SeqMove s { s.seq with line := .idle, gap := g, recoveryTimer := some n } s.arbiter
  /-- The recovery delay expires (R52). -/
  | finalReadCalled (resetting : s.seq.state.resetting = true) :
      SeqMove s { s.seq with line := .called .finalRead, recoveryTimer := none } s.arbiter
  /-- The final status read finds the device busy (`fault`), or not (`idle`) (R52, R55). -/
  | resetEnded {q : SeqState} {g : Nat} (resetting : s.seq.state.resetting = true)
      (line : s.seq.line.carried = some .finalRead) (outcome : q = .idle ∨ q = .fault) :
      SeqMove s { s.seq with line := .idle, gap := g, state := q } s.arbiter
  /-- The dwell timer expires (R48). -/
  | dwellOver (record : s.seq.suspended.isSome = true) :
      SeqMove s { s.seq with dwellTimer := none } { s.arbiter with resumeDue := true }
  /-- A suspend request is raised during a poll (R75). -/
  | requestRaised (suspendable : s.suspendable = true) (timer : s.seq.pollTimer = none) :
      SeqMove s s.seq { s.arbiter with suspendRequest := true }
  /-- A suspend request is raised and taken while the poll timer runs (R43). -/
  | requestRaisedAndTaken (suspendable : s.suspendable = true) (timer : s.seq.pollTimer.isSome = true) :
      SeqMove s { s.seq with line := .called .suspend, state := .suspending, pollTimer := none, handshakeReads := 0 }
        { s.arbiter with suspendRequest := false }

/-- The sequencer and the arbiter's conditions replaced. -/
def State.withSeq (s : State) (q : Sequencer) (a : Arbiter) : State := { s with seq := q, arbiter := a }

/-- The operation of record `r` ends: its transaction leaves the line, its result is handed over, and the sequencer enters
`q` (R39, R42, R50); `b` is what remains of a suspend request. -/
def State.operationEnds (s : State) (r : OpRecord) (st : Status) (d : Byte) (q : SeqState) (g k : Nat) (b : Bool) : State :=
  ((s.withSeq { s.seq with line := .idle, gap := g, handshakeReads := k }
      { s.arbiter with suspendRequest := b }).complete r st d).setSeqState q

/-- The bytes of the fill `r` arrive, or are discarded, and the sequencer enters IDLE (R35, R50). -/
def State.fillEnds (s : State) (r : OpRecord) (data : List Byte) (g : Nat) : State :=
  ((((s.modSeq fun q => { q with line := .idle, gap := g }).removeActive).deliverFill r data).holdNotice
    r.source.port).setSeqState .idle

/-- The operation of record `r` is confirmed suspended (R45). -/
def State.operationParks (s : State) (r : OpRecord) (g n k : Nat) : State :=
  s.modSeq fun q =>
    { q with line := .idle, gap := g, handshakeReads := k, active := none, state := .idle, dwellTimer := some n,
             suspended := some { op := { r with suspends := r.suspends + 1 }, dwell := 0 } }

/-- The accepted profile commit, with no operation on the flash (R153). -/
def State.profileTaken (s : State) (prof : Profile) : State :=
  ((({ s with profile := { s.profile with committed := some prof } } : State).closeByCommit .A).closeByCommit .B)

/-- The events that bring the arbiter no candidate, whatever stands beside them. -/
inductive Silent (s : State) : State → Prop where
  | same : Silent s s
  | claimed {p : Port} {b : Fin 16} (free : s.holder b = .free) : Silent s (s.setHolder b (.port p))
  | released {p : Port} {b : Fin 16} (held : s.holder b = .port p) : Silent s (s.setHolder b .free)
  | retired {p : Port} (done : (s.queue p).slots[(s.queue p).retire].isDone = true) :
      Silent s (s.modQueue p fun x => { x.setSlot x.retire .free with retire := x.retire + 1 })
  | stopped {p : Port} {x : QueueState}
      (table : (s.queue p).state = .running ∧ x = (if (s.queue p).hasActive then .stopping else .stopped)
        ∨ (s.queue p).state = .halted ∧ x = .stopped) : Silent s (s.setQueueState p x)
  | flushed {p : Port} (state : (s.queue p).state = .stopped ∨ (s.queue p).state = .halted) : Silent s (s.flushQueue p)
  | closed {p : Port} (free : (s.aperture p).stalled = false) : Silent s (s.modAperture p (Aperture.restart .closed 0))
  | stalled {p : Port} (state : (s.aperture p).state = .opened) (fifo : (s.aperture p).fifo = []) : Silent s (s.beginStall p)
  | stallEnded {p : Port} {d : Option Byte} : Silent s (s.endStall p d)
  | holdAsked {p : Port} (none : s.holdOf p = .none) (peer : s.holdOf p.peer = .none) : Silent s (s.setHold p .pending)
  | holdGiven {p : Port} {n : Nat} (none : s.holdOf p = .none) (peer : s.holdOf p.peer = .none) (drained : s.drained p = true) :
      Silent s ((s.setHold p .held).setHoldTimer (some n))
  | holdRenewed {p : Port} {n : Nat} (held : s.holdOf p = .held) : Silent s (s.setHoldTimer (some n))
  | sequencer {q : Sequencer} {a : Arbiter} (move : SeqMove s q a)
      (line : q.state = .idle → q = { s.seq with line := q.line }) : Silent s (s.withSeq q a)
  | timedOut {r : OpRecord} {d : Byte} {g : Nat} (active : s.seq.active = some r)
      (state : s.seq.state = .busyWait) (line : s.seq.line.carried = some .poll) :
      Silent s (s.operationEnds r .timeout d .fault g s.seq.handshakeReads false)
  | committed {prof : Profile} {t : Transaction} (valid : prof.valid = true) (quiet : s.quietForCommit = true)
      (first : t = .resetEnable ∨ t = .resetDevice) :
      Silent s (((s.profileTaken prof).setSeqState .initializing).callLine t)
  | poweredOn : Silent s .reset

/-- The events that may bring the arbiter a candidate, so that it considers after them. -/
inductive Bringing (s : State) : State → Prop where
  | enqueued {p : Port} {op : SlotOp} (room : (s.queue p).isFull = false) (owned : s.ownsBuffer p op = true) :
      Bringing s (s.enqueue p op)
  | started {p : Port} (state : (s.queue p).state = .stopped ∨ (s.queue p).state = .halted) :
      Bringing s (s.setQueueState p .running)
  | opened {p : Port} {a : Nat} (below : a < s.capacity) (free : (s.aperture p).stalled = false) :
      Bringing s (s.modAperture p (Aperture.restart .opened a))
  | byteTaken {p : Port} (byte : (s.aperture p).fifo ≠ []) : Bringing s (s.modAperture p (Aperture.takeByte s.capacity))
  | holdEnded {p : Port} (hold : s.holdOf p ≠ .none) : Bringing s ((s.setHold p .none).setHoldTimer none)
  | portReset {p : Port} : Bringing s (s.portReset p)
  | sequencer {q : Sequencer} {a : Arbiter} (move : SeqMove s q a) : Bringing s (s.withSeq q a)
  | operationEnded {r : OpRecord} {st : Status} {d : Byte} {g k : Nat} {b : Bool} (active : s.seq.active = some r)
      (kind : s.seq.state = .reading → r.kind ≠ .fill)
      (state : s.seq.state = .reading ∧ b = s.arbiter.suspendRequest ∨ s.seq.state = .writing ∧ b = s.arbiter.suspendRequest
        ∨ s.seq.state = .suspending ∧ b = s.arbiter.suspendRequest ∨ s.seq.state = .busyWait ∧ b = false)
      (line : s.seq.line.carried ≠ none) :
      Bringing s (s.operationEnds r st d .idle g k b)
  | fillEnded {r : OpRecord} {data : List Byte} {g : Nat} (active : s.seq.active = some r) (kind : r.kind = .fill)
      (size : data.length = r.range.length) (state : s.seq.state = .reading) : Bringing s (s.fillEnds r data g)
  | operationParked {r : OpRecord} {g n k : Nat} (active : s.seq.active = some r) (state : s.seq.state = .suspending)
      (line : s.seq.line.carried = some .handshake) : Bringing s (s.operationParks r g n k)

/-! ### Rows -/

/-- `w` has the core of `s`, or of `s` after some time. -/
def Passed (s w : State) : Prop := w.core = s.core ∨ ∃ d, w.core = (s.elapse d).core

/-- What a row does to the core: time may pass, one event takes place, and the arbiter considers what results where the event
may bring it a candidate. -/
inductive Row (s t : State) : Prop where
  | silent {w u : State} (start : Passed s w) (event : Silent w u) (result : t.core = u.core)
  | considered {w u v : State} (start : Passed s w) (event : Silent w u ∨ Bringing w u) (considers : v.core = u.core)
      (result : t.core = v.consider.core)

theorem Passed.refl (s : State) : Passed s s := .inl rfl
theorem Passed.elapse (s : State) (d : Nat) : Passed s (s.elapse d) := .inr ⟨d, rfl⟩

section
variable {s t u : State}

theorem Row.of_core (h : t.core = s.core) : Row s t := .silent (.refl s) .same h
theorem Row.of_silent (h : Silent s u) (ht : t.core = u.core) : Row s t := .silent (.refl s) h ht
theorem Row.of_bringing (h : Bringing s u) (ht : t.core = u.consider.core) : Row s t := .considered (.refl s) (.inr h) rfl ht
theorem Row.then_core (h : Row s t) (hu : u.core = t.core) : Row s u := by
  cases h with
  | silent start event result => exact .silent start event (hu.trans result)
  | considered start event considers result => exact .considered start event considers (hu.trans result)

theorem Row.access {p : Port} {f : State → State} (h : s.accessTaken p = true → Row s (f s)) : Row s (s.access p f) := by
  rcases s.access_cases p f with e | ⟨ht, e⟩ <;> rw [e]
  · exact .of_core rfl
  · exact h ht

theorem Row.command {p : Port} {f : State → State × Result} (h : s.accessTaken p = true → Row s (f s).1) :
    Row s (s.command p f) :=
  .access fun ht => (h ht).then_core (State.setResult_core _ _ _)

end

end Sys2Proof.Machine
end

section
/-! SUPPORT. The row that each operation and event of the part is, in the terms of Row. -/

namespace Sys2Proof.Machine

/-! ### The queue's rows -/

theorem postBody_row (p : Port) (s : State) : Row s (postBody p s).1 := by
  unfold postBody
  split
  · exact .of_core rfl
  · split
    · exact .of_core rfl
    · next hfull =>
      split
      · exact .of_core rfl
      · next op _ =>
        split
        · next hown => exact .of_bringing (.enqueued (by simpa using hfull) hown) rfl
        · exact .of_core rfl

theorem retireBody_row (p : Port) (s : State) : Row s (retireBody p s).1 := by
  unfold retireBody
  simp only
  split
  · next h => exact .of_silent (.retired h) rfl
  · exact .of_core rfl

theorem startBody_row (p : Port) (s : State) : Row s (startBody p s).1 := by
  unfold startBody
  split
  · next h => exact .of_bringing (.started (.inl h)) rfl
  all_goals exact .of_core rfl

theorem stopBody_row (p : Port) (s : State) : Row s (stopBody p s).1 := by
  unfold stopBody
  split
  · exact .of_core rfl
  · exact .of_core rfl
  · next h => exact .of_silent (.stopped (.inl ⟨h, rfl⟩)) rfl
  · next h => exact .of_silent (.stopped (.inr ⟨h, rfl⟩)) rfl

theorem resumeBody_row (p : Port) (s : State) : Row s (resumeBody p s).1 := by
  unfold resumeBody
  split
  · next h => exact .of_bringing (.started (.inr h)) rfl
  all_goals exact .of_core rfl

theorem flushBody_row (p : Port) (s : State) : Row s (flushBody p s).1 := by
  unfold flushBody
  split
  · next h => split; exacts [.of_core rfl, .of_silent (.flushed (.inl h)) rfl]
  · next h => split; exacts [.of_core rfl, .of_silent (.flushed (.inr h)) rfl]
  all_goals exact .of_core rfl

theorem writeQmode_row (p : Port) (v : Byte) (s : State) : Row s (writeQmode p v s) := by
  unfold writeQmode
  split
  · exact .of_core (s.modPort_core_of_kept p fun _ => rfl)
  · exact .of_core (by simp)

/-! ### The buffer pool's rows -/

theorem State.giveBuffer_core (s : State) (p : Port) (b : Fin 16) : (s.giveBuffer p b).core = (s.setHolder b (.port p)).core :=
  State.modPort_core_of_kept _ p fun _ => rfl

theorem State.freeBuffer?_eq_some {s : State} {b : Fin 16} (h : s.freeBuffer? = some b) : s.holder b = .free := by
  simpa using List.find?_some h

theorem claimBody_row (p : Port) (s : State) : Row s (claimBody p s).1 := by
  unfold claimBody
  split
  · exact .of_core (by simp)
  · split
    · exact .of_core (by simp)
    · next b h => exact .of_silent (.claimed (State.freeBuffer?_eq_some h)) (s.giveBuffer_core p b)

theorem releaseBody_row (p : Port) (s : State) : Row s (releaseBody p s).1 := by
  unfold releaseBody
  split
  · exact .of_core rfl
  · next b _ =>
    split
    · next h => exact .of_silent (.released h) (s.freeBuffer_core b)
    · exact .of_core rfl

theorem readBufdata_row (p : Port) (s : State) : Row s (readBufdata p s) := by
  unfold readBufdata; split <;> exact .of_core (by simp)
theorem writeBufdata_row (p : Port) (v : Byte) (s : State) : Row s (writeBufdata p v s) := by
  unfold writeBufdata; split <;> exact .of_core (by simp)

/-! ### The aperture's rows -/

theorem openBody_row {p : Port} {s : State} (h : s.accessTaken p = true) : Row s (openBody p s).1 := by
  unfold openBody
  split
  · exact .of_core rfl
  · next prof hprof =>
    simp only
    split
    · exact .of_core rfl
    · next ha =>
      have hcap : s.capacity = prof.capacity := by simp [State.capacity, State.prof, hprof]
      exact .of_bringing (.opened (by omega) (State.accessTaken_stalled h)) rfl

theorem closeBody_row {p : Port} {s : State} (h : s.accessTaken p = true) : Row s (closeBody p s).1 :=
  .of_silent (.closed (State.accessTaken_stalled h)) rfl

theorem readApdata_row (p : Port) (s : State) : Row s (readApdata p s) := by
  unfold readApdata
  simp only
  split
  · next byte _ hf => exact .considered (.refl s) (.inr (.byteTaken (p := p) (by simp [hf]))) (by simp) rfl
  · next hf =>
    split
    · exact .of_core (by simp)
    · exact .of_core (by simp)
    · exact .of_core (by simp)
    · next ho => split; exacts [.of_silent (.stalled ho hf) rfl, .of_core (by simp)]

theorem abandonRead_row (p : Port) (s : State) : Row s (abandonRead p s) := by
  unfold abandonRead
  split
  · exact .of_silent .stallEnded rfl
  · exact .of_core rfl

theorem expireStall_row (p : Port) (s : State) : Row s (expireStall p s) := by
  rcases expireStall_cases p s with e | ⟨-, -, e⟩ <;> rw [e]
  · exact .of_core rfl
  · exact .of_silent (.stallEnded (p := p) (d := some 0xFF)) (by simp)

/-! ### The hold unit's rows -/

theorem State.grantHold_core (s : State) (p : Port) :
    (s.grantHold p).core = ((s.setHold p .held).setHoldTimer (startTimer (s.hold.duration.toNat * 1000))).core := by
  simp [State.grantHold]

theorem holdRequestBody_row (p : Port) (s : State) : Row s (holdRequestBody p s).1 := by
  unfold holdRequestBody
  split
  · exact .of_core rfl
  · split
    · exact .of_core rfl
    · next hnone =>
      split
      · exact .of_core rfl
      · split
        · exact .of_core rfl
        · next hpeer =>
          simp only [ne_eq, Decidable.not_not] at hnone hpeer
          simp only [accept]
          split
          · next hd =>
            refine .of_silent (.holdGiven (n := cyclesOfMicroseconds ((s.port p).holdTime.toNat * 1000)) hnone hpeer hd) ?_
            rw [State.grantHold_core]
            cases p <;> rfl
          · exact .of_silent (.holdAsked hnone hpeer) rfl

theorem holdRenewBody_row (p : Port) (s : State) : Row s (holdRenewBody p s).1 := by
  unfold holdRenewBody
  split
  · next h => exact .of_silent (.holdRenewed h) rfl
  all_goals exact .of_core rfl

theorem holdReleaseBody_row (p : Port) (s : State) : Row s (holdReleaseBody p s).1 := by
  unfold holdReleaseBody
  split
  · next h => exact .of_bringing (.holdEnded (p := p) (by simp [h])) rfl
  · next h => exact .of_bringing (.holdEnded (p := p) (by simp [h])) rfl
  · exact .of_core rfl

theorem expireHold_row (s : State) : Row s (expireHold s) := by
  rcases expireHold_cases s with e | ⟨p, -, hp, e⟩ <;> rw [e]
  · exact .of_core rfl
  · exact .considered (.refl s) (.inr (.holdEnded (p := p) (by simp [hp]))) (by simp) rfl

/-! ### The configuration's and the event units' rows -/

theorem claimAuthorityBody_row (p : Port) (s : State) : Row s (claimAuthorityBody p s).1 := by
  unfold claimAuthorityBody; (repeat' split) <;> exact .of_core (by simp [accept, refuse])
theorem releaseAuthorityBody_row (p : Port) (s : State) : Row s (releaseAuthorityBody p s).1 := by
  unfold releaseAuthorityBody; split <;> exact .of_core (by simp [accept, refuse])
theorem commitRegionBody_row (p : Port) (s : State) : Row s (commitRegionBody p s).1 := by
  unfold commitRegionBody; simp only; (repeat' split) <;> exact .of_core (by simp [accept, refuse])
theorem commitDefaultsBody_row (p : Port) (s : State) : Row s (commitDefaultsBody p s).1 := by
  unfold commitDefaultsBody
  split
  · exact .of_core rfl
  · split
    · exact .of_core rfl
    · exact .of_core (State.raiseBoth_core _ _)

theorem State.profileTaken_prof (s : State) (prof : Profile) : (s.profileTaken prof).prof = prof := by
  simp [State.prof, State.profileTaken]

theorem commitProfileBody_row (p : Port) (s : State) : Row s (commitProfileBody p s).1 := by
  unfold commitProfileBody
  split
  · exact .of_core rfl
  · split
    · exact .of_core rfl
    · next hq =>
      split
      · exact .of_core rfl
      · next hv =>
        refine .of_silent (.committed (prof := s.profile.staging)
          (t := if s.profile.staging.num .resetEnableOp ≠ 0 then .resetEnable else .resetDevice)
          (by simpa using hv) (by simpa using hq) (by split <;> simp)) ?_
        have hprof : ((s.profileTaken s.profile.staging).raiseBoth .config).prof = s.profile.staging := by
          simp [State.profileTaken_prof]
        change ((State.startResetSequence ((s.profileTaken s.profile.staging).raiseBoth .config) _)).core = _
        simp only [State.startResetSequence, hprof]
        exact State.modSeq_core_congr (State.modSeq_core_congr (State.raiseBoth_core _ _) _) _

theorem readCfgdata_row (p : Port) (s : State) : Row s (readCfgdata p s) := .of_core (by simp [readCfgdata])
theorem writeCfgdata_row (p : Port) (v : Byte) (s : State) : Row s (writeCfgdata p v s) := by
  unfold writeCfgdata; simp only; (repeat' split) <;> exact .of_core (by simp)
theorem writeEvflags_row (p : Port) (high : Bool) (v : Byte) (s : State) : Row s (writeEvflags p high v s) :=
  .of_core (s.modPort_core_of_kept p fun _ => rfl)
theorem writeEvenable_row (p : Port) (high : Bool) (v : Byte) (s : State) : Row s (writeEvenable p high v s) :=
  .of_core (s.modPort_core_of_kept p fun _ => rfl)
theorem clearCountersBody_row (p : Port) (s : State) : Row s (clearCountersBody p s).1 :=
  .of_core (s.modPort_core_of_kept p fun _ => rfl)
theorem clearGlobalCountersBody_row (p : Port) (s : State) : Row s (clearGlobalCountersBody p s).1 := by
  unfold clearGlobalCountersBody; split <;> exact .of_core rfl
theorem expireHoldoff_row (p : Port) (s : State) : Row s (expireHoldoff p s) := by
  unfold expireHoldoff; split
  · exact .of_core (by simp)
  · exact .of_core rfl

theorem writePlain_row (p : Port) (offset : BitVec 6) (v : Byte) (s : State) : Row s (writePlain p offset v s) := by
  refine .of_core ?_
  unfold writePlain
  split
  case h_14 | h_16 => split <;> first | rfl | exact s.modPort_core_of_kept p fun _ => rfl
  all_goals first | rfl | exact s.modPort_core_of_kept p fun _ => rfl

/-! ### The resets -/

theorem softReset_row (p : Port) (s : State) : Row s (softReset p s) := .of_bringing .portReset rfl
theorem recogniseReset_row (p : Port) (s : State) : Row s (recogniseReset p s) := by
  unfold recogniseReset
  split
  · exact .of_core rfl
  · exact .considered (.refl s) (.inr (.portReset (p := p))) (by simp) rfl
theorem endPortReset_row (p : Port) (s : State) : Row s (endPortReset p s) := by
  unfold endPortReset; split <;> exact .of_core (by simp)
theorem powerOn_row (s : State) : Row s (powerOn s) := .of_silent .poweredOn rfl
theorem endPowerOn_row (lowA lowB : Bool) (s : State) : Row s (endPowerOn lowA lowB s) := by
  unfold endPowerOn
  split
  · exact .of_core (by rw [State.setInReset_core, State.setInReset_core]; rfl)
  · exact .of_core rfl

end Sys2Proof.Machine
end

section
/-! SUPPORT. The row that each event of the sequencer is, in the terms of Row, and so the row that every step is. -/

namespace Sys2Proof.Machine

/-! ### Ends of transactions -/

theorem State.elapse_carried {s : State} {t : Transaction} {left : Nat} (h : s.seq.line = .onLine t left) (d : Nat) :
    (s.elapse d).seq.line.carried = some t := by
  change (s.seq.line.elapse d).carried = some t
  rw [Line.carried_elapse, h]; rfl

section
variable {s : State}

/-- The end of an operation's transaction is a row when its effect at that moment is one. -/
theorem Row.onOperationEnd {q : SeqState} {t : Transaction} {f : OpRecord → State → State}
    (h : ∀ left r, s.seq.state = q → (s.elapse left).seq.line.carried = some t → (s.elapse left).seq.active = some r →
      Row s (f r (s.lineEnded left))) : Row s (s.onOperationEnd q t f) := by
  rcases s.onOperationEnd_cases q t f with e | ⟨left, r, hl, hq, ha, e⟩ <;> rw [e]
  · exact .of_core rfl
  · exact h left r hq (State.elapse_carried hl left) ha

theorem Row.onResetEnd {t : Transaction} {f : State → State}
    (h : ∀ left, s.seq.state.resetting = true → (s.elapse left).seq.line.carried = some t → Row s (f (s.lineEnded left))) :
    Row s (s.onResetEnd t f) := by
  rcases s.onResetEnd_cases t f with e | ⟨left, hl, hq, e⟩ <;> rw [e]
  · exact .of_core rfl
  · exact h left hq (State.elapse_carried hl left)

/-- A transition of the sequencer alone, after some time, that does not lead to IDLE. -/
theorem Row.of_move {t : State} {d : Nat} {q : Sequencer} {a : Arbiter} (h : SeqMove (s.elapse d) q a)
    (busy : q.state ≠ .idle) (ht : t.core = ((s.elapse d).withSeq q a).core) : Row s t :=
  .silent (.elapse s d) (.sequencer h fun e => absurd e busy) ht

theorem State.consider_of_idle {t : State} (h : t.seq.state = .idle) : t.consider = t.grantPoint := if_pos h
theorem State.consider_of_busy {t : State} (h : t.seq.state ≠ .idle) : t.consider = t.evaluateSuspend := if_neg h
theorem State.enterIdle_eq_consider (t : State) : t.enterIdle = (t.setSeqState .idle).consider :=
  (State.consider_of_idle (t := t.setSeqState .idle) rfl).symm

/-- An event after some time that leads to IDLE, which the arbiter considers (R58). -/
theorem Row.of_enterIdle {w u t : State} (start : Passed s w) (event : Bringing w u) (h : (t.setSeqState .idle).core = u.core) :
    Row s t.enterIdle :=
  .considered start (.inr event) h (congrArg State.core t.enterIdle_eq_consider)

end

/-! ### The line and read-class operations -/

theorem beginTransaction_row (s : State) : Row s (beginTransaction s) := by
  unfold beginTransaction
  split
  · next t h =>
    refine .silent (.elapse s s.seq.gap) (.sequencer (.begun (t := t) (n := s.transactionCycles t) ?_) fun _ => rfl) rfl
    change s.seq.line.elapse s.seq.gap = _
    rw [h]; rfl
  all_goals exact .of_core rfl

theorem finishRead_row (data : List Byte) (s : State) : Row s (finishRead data s) := by
  refine .onOperationEnd fun left r hq hl ha => ?_
  split
  · next h =>
    simp only [Bool.and_eq_true, decide_eq_true_eq] at h
    have event {v : State} (hv : v.seq = (s.elapse left).seq) (g k : Nat) :
        Bringing v (v.operationEnds r .ok 0 .idle g k v.arbiter.suspendRequest) :=
      .operationEnded (by rw [hv]; exact ha) (fun _ => by simp [h.1]) (.inl ⟨by rw [hv]; exact hq, rfl⟩) (by rw [hv, hl]; simp)
    cases r.buffer with
    | none => exact .of_enterIdle (w := s.elapse left) (.elapse s left) (event rfl 32 s.seq.handshakeReads) rfl
    | some b =>
      refine .of_enterIdle (w := (s.elapse left).setBuffer b (fillBuffer (s.lineEnded left).pool.bytes[b] data))
        (.inr ⟨left, rfl⟩) (event ?_ 32 s.seq.handshakeReads) rfl
      rfl
  · exact .of_core rfl

/-- The end of an operation in READING, WRITING or SUSPENDING, which the arbiter considers in IDLE. -/
theorem Row.of_operationEnd {s : State} {left k : Nat} {r : OpRecord} {st : Status} {d : Byte} {t : Transaction}
    (ha : (s.elapse left).seq.active = some r) (hk : s.seq.state = .reading → r.kind ≠ .fill)
    (hl : (s.elapse left).seq.line.carried = some t)
    (hq : s.seq.state = .reading ∨ s.seq.state = .writing ∨ s.seq.state = .suspending) :
    Row s (((s.lineEnded left).modSeq fun q => { q with handshakeReads := k }).complete r st d).enterIdle := by
  refine .of_enterIdle (.elapse s left) (.operationEnded (r := r) (st := st) (d := d) (g := 32) (k := k)
    (b := s.arbiter.suspendRequest) ha hk ?_ (by rw [hl]; simp)) rfl
  rcases hq with h | h | h
  · exact .inl ⟨h, rfl⟩
  · exact .inr (.inl ⟨h, rfl⟩)
  · exact .inr (.inr (.inl ⟨h, rfl⟩))

theorem finishVerify_row (data : List Byte) (s : State) : Row s (finishVerify data s) := by
  refine .onOperationEnd fun left r hq hl ha => ?_
  split
  · next h =>
    simp only [Bool.and_eq_true, decide_eq_true_eq] at h
    exact Row.of_operationEnd (r := r) (k := s.seq.handshakeReads) ha (fun _ => by simp [h.1]) hl (.inl hq)
  · exact .of_core rfl

theorem finishFill_row (data : List Byte) (s : State) : Row s (finishFill data s) := by
  refine .onOperationEnd fun left r hq hl ha => ?_
  split
  · next h =>
    simp only [Bool.and_eq_true, decide_eq_true_eq] at h
    exact .of_enterIdle (.elapse s left) (.fillEnded (g := 32) ha h.1 h.2 hq) rfl
  · exact .of_core rfl

/-! ### Write-class operations -/

theorem finishWriteEnable_row (s : State) : Row s (finishWriteEnable s) :=
  .onOperationEnd fun left _ hq _ _ =>
    .of_move (.writeGoesOn (s := s.elapse left) (t := if s.prof.namesLatch then .writeEnableCheck else .command) (g := 32) hq
      (by split <;> simp)) (fun e => absurd (hq.symm.trans e) (by decide)) rfl

theorem checkWriteEnable_row (status : Byte) (s : State) : Row s (checkWriteEnable status s) := by
  refine .onOperationEnd fun left r hq hl ha => ?_
  split
  · exact .of_move (.writeGoesOn (s := s.elapse left) (g := 32) hq (.inr rfl))
      (fun e => absurd (hq.symm.trans e) (by decide)) rfl
  · exact .of_operationEnd (k := s.seq.handshakeReads) ha (fun e => absurd (hq.symm.trans e) (by decide)) hl (.inr (.inl hq))

/-- A transition to BUSYWAIT, which the arbiter considers: it evaluates the suspend request there (R75). -/
theorem Row.of_busyPhase {s t : State} {d : Nat} {q : Sequencer} (h : SeqMove (s.elapse d) q s.arbiter)
    (busy : q.state = .busyWait) (ht : t = ((s.elapse d).withSeq q s.arbiter).evaluateSuspend) : Row s t := by
  refine .considered (.elapse s d) (.inr (.sequencer h)) rfl ?_
  have hne : ((s.elapse d).withSeq q s.arbiter).seq.state ≠ .idle := fun e => absurd (busy.symm.trans e) (by decide)
  rw [ht, State.consider_of_busy hne]

theorem finishCommand_row (s : State) : Row s (finishCommand s) :=
  .onOperationEnd fun left _ hq _ _ =>
    .of_busyPhase (.busyPhase (s := s.elapse left) (f := fun r => { r with busyTime := 0, runTime := 0 }) (g := 32)
      (n := cyclesOfMicroseconds s.prof.pollMicros) (.inl hq) fun _ => ⟨0, rfl⟩) rfl rfl

theorem expirePoll_row (s : State) : Row s (expirePoll s) := by
  unfold expirePoll
  split
  · next left h =>
    split
    · next hq =>
      refine .of_move (.pollCalled (s := s.elapse left) hq ?_) (fun e => absurd (hq.symm.trans e) (by decide)) rfl
      change (elapseTimer left s.seq.pollTimer).isSome = true
      rw [h]; rfl
    · exact .of_core rfl
  · exact .of_core rfl

theorem finishPoll_row (status : Byte) (s : State) : Row s (finishPoll status s) := by
  refine .onOperationEnd fun left r hq hl ha => ?_
  have ends (st : Status) (d : Byte) : Row s ((s.lineEnded left).dropSuspendRequest.complete r st d).enterIdle :=
    .of_enterIdle (.elapse s left) (.operationEnded (r := r) (st := st) (d := d) (g := 32) (k := s.seq.handshakeReads)
      (b := false) ha (fun e => absurd (hq.symm.trans e) (by decide)) (.inr (.inr (.inr ⟨hq, rfl⟩))) (by rw [hl]; simp)) rfl
  split
  · unfold evaluateCompletion
    split
    · exact ends _ _
    · exact ends _ _
  · split
    · refine .silent (.elapse s left) (.timedOut (r := r) (d := 0) (g := 32) ha hq hl) ?_
      exact (State.raiseBoth_core _ _).trans rfl
    · split
      · next hr => exact .of_move (.requestTaken (s := s.elapse left) (g := 32) hq hr) (by simp) rfl
      · next hr =>
        exact .of_move (.pollAgain (s := s.elapse left) (g := 32) (n := cyclesOfMicroseconds s.prof.pollMicros) hq
          (by simpa using hr)) (fun e => absurd (hq.symm.trans e) (by decide)) rfl

theorem reachMinimumRun_row (s : State) : Row s (reachMinimumRun s) := by
  unfold reachMinimumRun
  split
  · next r _ =>
    split
    · next hq =>
      have hne : (s.elapse (s.minRunCycles - r.runTime)).seq.state ≠ .idle := fun e => absurd (hq.symm.trans e) (by decide)
      refine .considered (.elapse s (s.minRunCycles - r.runTime)) (.inl .same) rfl ?_
      rw [State.consider_of_busy hne]
    · exact .of_core rfl
  · exact .of_core rfl

/-! ### Suspend handshake, dwell and resume -/

theorem finishSuspendTransaction_row (s : State) : Row s (finishSuspendTransaction s) :=
  .onOperationEnd fun left _ hq _ _ =>
    .of_move (.latencyStarted (s := s.elapse left) (g := 32) (n := cyclesOfMicroseconds s.prof.latencyMicros)
      (k := s.seq.handshakeReads) hq) (fun e => absurd (hq.symm.trans e) (by decide)) rfl

theorem expireLatency_row (s : State) : Row s (expireLatency s) := by
  unfold expireLatency
  split
  · next left h =>
    split
    · next hq =>
      exact .of_move (.handshakeCalled (s := s.elapse left) hq) (fun e => absurd (hq.symm.trans e) (by decide)) rfl
    · exact .of_core rfl
  · exact .of_core rfl

theorem finishHandshakeRead_row (status : Byte) (s : State) : Row s (finishHandshakeRead status s) := by
  refine .onOperationEnd fun left r hq hl ha => ?_
  simp only
  split
  · split
    · exact .of_move (.latencyStarted (s := s.elapse left) (g := 32) (n := cyclesOfMicroseconds s.prof.latencyMicros)
        (k := s.seq.handshakeReads + 1) hq) (fun e => absurd (hq.symm.trans e) (by decide)) rfl
    · exact .of_move (.handshakeFailed (s := s.elapse left) (g := 32) (n := cyclesOfMicroseconds s.prof.pollMicros)
        (k := s.seq.handshakeReads + 1) hq hl) (by simp) rfl
  · split
    · have ends (st : Status) (d : Byte) := Row.of_operationEnd (k := s.seq.handshakeReads + 1) (st := st) (d := d) ha
        (fun e => absurd (hq.symm.trans e) (by decide)) hl (.inr (.inr hq))
      unfold evaluateCompletion
      split
      · exact ends _ _
      · exact ends _ _
    · exact .of_enterIdle (.elapse s left) (.operationParked (g := 32) (n := cyclesOfMicroseconds s.prof.dwellMicros)
        (k := s.seq.handshakeReads + 1) ha hq hl) rfl

theorem expireDwell_row (s : State) : Row s (expireDwell s) := by
  unfold expireDwell
  split
  · next left x _ hx =>
    have move : SeqMove (s.elapse left) _ _ := .dwellOver (by change (s.seq.suspended.map _).isSome = true; rw [hx]; rfl)
    simp only
    split
    · next hi => exact .considered (.elapse s left) (.inr (.sequencer move)) rfl (by rw [State.consider_of_idle]; exacts [rfl, hi])
    · next hi => exact .of_move move hi rfl
  · exact .of_core rfl

theorem finishResumeTransaction_row (s : State) : Row s (finishResumeTransaction s) :=
  .onOperationEnd fun left _ hq _ _ =>
    .of_busyPhase (.busyPhase (s := s.elapse left) (f := fun r => { r with runTime := 0 }) (g := 32)
      (n := cyclesOfMicroseconds s.prof.pollMicros) (.inr hq) fun r => ⟨r.busyTime, rfl⟩) rfl rfl

/-! ### Initialization and recovery -/

theorem resetting_ne_idle {q : SeqState} (h : q.resetting = true) : q ≠ .idle := by rintro rfl; cases h

theorem recoverBody_row (s : State) : Row s (recoverBody s).1 := by
  unfold recoverBody
  split
  · next h =>
    exact .of_silent (.sequencer (.resetStarted (t := if s.prof.num .resetEnableOp ≠ 0 then .resetEnable else .resetDevice) h
      (by split <;> simp)) fun e => by cases e) rfl
  · exact .of_core rfl

theorem finishResetEnable_row (s : State) : Row s (finishResetEnable s) :=
  .onResetEnd fun left hq hl => .of_move (.resetEnabled (s := s.elapse left) (g := 32) hq hl) (resetting_ne_idle hq) rfl

theorem finishResetDevice_row (s : State) : Row s (finishResetDevice s) :=
  .onResetEnd fun left hq _ => .of_move (.delayStarted (s := s.elapse left) (g := 32)
    (n := cyclesOfMicroseconds s.prof.recoveryMicros) hq) (resetting_ne_idle hq) rfl

theorem expireRecoveryDelay_row (s : State) : Row s (expireRecoveryDelay s) := by
  unfold expireRecoveryDelay
  split
  · next left h =>
    split
    · next hq => exact .of_move (.finalReadCalled (s := s.elapse left) hq) (resetting_ne_idle hq) rfl
    · exact .of_core rfl
  · exact .of_core rfl

/-- The end of the final status read with the device busy, or not (R52, R55). -/
theorem Row.of_resetFailed {s t : State} {left : Nat} (hq : s.seq.state.resetting = true)
    (hl : (s.elapse left).seq.line.carried = some .finalRead) (ht : t.core = ((s.lineEnded left).setSeqState .fault).core) :
    Row s t :=
  .of_move (.resetEnded (s := s.elapse left) (q := .fault) (g := 32) hq hl (.inr rfl)) (by simp) ht

theorem Row.of_resetDone {s t : State} {left : Nat} (hq : s.seq.state.resetting = true)
    (hl : (s.elapse left).seq.line.carried = some .finalRead) (ht : t.core = (s.lineEnded left).core) : Row s t.enterIdle :=
  .of_enterIdle (.elapse s left)
    (.sequencer (.resetEnded (s := s.elapse left) (q := .idle) (g := 32) hq hl (.inl rfl))) (State.modSeq_core_congr ht _)

theorem finishInitialization_row (status : Byte) (s : State) : Row s (finishInitialization status s) := by
  unfold finishInitialization
  split
  · next s1 h =>
    obtain ⟨left, hl, rfl⟩ := (State.endTransaction_eq_some s s1 _).1 h
    split
    · next hq =>
      have hr : s.seq.state.resetting = true := by rw [hq]; rfl
      split
      · exact .of_resetFailed hr (State.elapse_carried hl left) (by simp)
      · exact .of_resetDone hr (State.elapse_carried hl left) (by simp)
    · exact .of_core rfl
  · exact .of_core rfl

theorem finishRecovery_row (status : Byte) (s : State) : Row s (finishRecovery status s) := by
  unfold finishRecovery
  split
  · next s1 h =>
    obtain ⟨left, hl, rfl⟩ := (State.endTransaction_eq_some s s1 _).1 h
    split
    · next hq =>
      have hr : s.seq.state.resetting = true := by rw [hq]; rfl
      split
      · exact .of_resetFailed hr (State.elapse_carried hl left) (by simp)
      · exact .of_resetDone hr (State.elapse_carried hl left) (by simp)
    · exact .of_core rfl
  · exact .of_core rfl

/-! ### Every row -/

theorem runCommand_row (p : Port) (c : CommandName) (s : State) : Row s (runCommand p c s) := by
  cases c with
  | post => exact .command fun _ => postBody_row p s
  | retire => exact .command fun _ => retireBody_row p s
  | start => exact .command fun _ => startBody_row p s
  | stop => exact .command fun _ => stopBody_row p s
  | resume => exact .command fun _ => resumeBody_row p s
  | flush => exact .command fun _ => flushBody_row p s
  | claim => exact .command fun _ => claimBody_row p s
  | release => exact .command fun _ => releaseBody_row p s
  | openAperture => exact .command fun h => openBody_row h
  | closeAperture => exact .command fun h => closeBody_row h
  | holdRequest => exact .command fun _ => holdRequestBody_row p s
  | holdRenew => exact .command fun _ => holdRenewBody_row p s
  | holdRelease => exact .command fun _ => holdReleaseBody_row p s
  | claimAuthority => exact .command fun _ => claimAuthorityBody_row p s
  | releaseAuthority => exact .command fun _ => releaseAuthorityBody_row p s
  | commitProfile => exact .command fun _ => commitProfileBody_row p s
  | commitRegion => exact .command fun _ => commitRegionBody_row p s
  | commitDefaults => exact .command fun _ => commitDefaultsBody_row p s
  | clearGlobalCounters => exact .command fun _ => clearGlobalCountersBody_row p s
  | recover => exact .command fun _ => recoverBody_row s
  | clearCounters => exact .command fun _ => clearCountersBody_row p s
  | softReset => exact .access fun _ => softReset_row p s

theorem writeCommand_row (p : Port) (code : Byte) (s : State) : Row s (writeCommand p code s) := by
  unfold writeCommand
  split
  · exact runCommand_row p _ s
  · exact .command fun _ => .of_core rfl

theorem writeWindow_row (p : Port) (offset : BitVec 6) (v : Byte) (s : State) : Row s (writeWindow p offset v s) := by
  unfold writeWindow
  split
  · exact writeCommand_row p v s
  · exact .access fun _ => writeQmode_row p v s
  · exact .access fun _ => writeBufdata_row p v s
  · exact .access fun _ => writeEvflags_row p false v s
  · exact .access fun _ => writeEvflags_row p true v s
  · exact .access fun _ => writeEvenable_row p false v s
  · exact .access fun _ => writeEvenable_row p true v s
  · exact .access fun _ => writeCfgdata_row p v s
  · exact .access fun _ => writePlain_row p offset v s

theorem exec_row {i : Instr} {s t : State} (h : exec i s = .next t) : Row s t := by
  have keep {u : State} (e : (.next u : Host.Outcome State Fault Refusal) = .next t) (row : Row s u) : Row s t :=
    Host.Outcome.next.inj e ▸ row
  cases hbus : busWriteOf i with
  | some w => exact keep ((exec_of_busWriteOf hbus s).symm.trans h) (writeWindow_row _ _ _ s)
  | none =>
    cases i with
    | bufdataRead p => exact keep h (.access fun _ => readBufdata_row p s)
    | apdataRead p => exact keep h (.access fun _ => readApdata_row p s)
    | cfgdataRead p => exact keep h (.access fun _ => readCfgdata_row p s)
    | readAbandon p => exact keep h (abandonRead_row p s)
    | prstRecognised p => exact keep h (recogniseReset_row p s)
    | portInResetEnd p => exact keep h (endPortReset_row p s)
    | powerOnReset => exact keep h (powerOn_row s)
    | lineTransactionStart => exact keep h (beginTransaction_row s)
    | readTransactionEnd data => exact keep h (finishRead_row data s)
    | verifyEnd data => exact keep h (finishVerify_row data s)
    | fillTransactionEnd data => exact keep h (finishFill_row data s)
    | writeEnableEnd => exact keep h (finishWriteEnable_row s)
    | writeEnableCheck status => exact keep h (checkWriteEnable_row status s)
    | commandTransactionEnd => exact keep h (finishCommand_row s)
    | pollTimerExpiry => exact keep h (expirePoll_row s)
    | pollEnd status => exact keep h (finishPoll_row status s)
    | runTimeReachesMinimum => exact keep h (reachMinimumRun_row s)
    | suspendTransactionEnd => exact keep h (finishSuspendTransaction_row s)
    | latencyTimerExpiry => exact keep h (expireLatency_row s)
    | handshakeReadEnd status => exact keep h (finishHandshakeRead_row status s)
    | dwellTimerExpiry => exact keep h (expireDwell_row s)
    | resumeTransactionEnd => exact keep h (finishResumeTransaction_row s)
    | resetEnableEnd => exact keep h (finishResetEnable_row s)
    | resetDeviceEnd => exact keep h (finishResetDevice_row s)
    | recoveryDelayExpiry => exact keep h (expireRecoveryDelay_row s)
    | initializationEnd status => exact keep h (finishInitialization_row status s)
    | recoveryEnd status => exact keep h (finishRecovery_row status s)
    | stallTimerExpiry p => exact keep h (expireStall_row p s)
    | holdTimerExpiry => exact keep h (expireHold_row s)
    | holdoffTimerExpiry p => exact keep h (expireHoldoff_row p s)
    | powerOnResetEnd lowA lowB => exact keep h (endPowerOn_row lowA lowB s)
    | _ => cases hbus

theorem tick_row (s : State) : Row s (tick s) := by
  unfold tick
  split
  · exact .of_core rfl
  · exact .silent (.elapse s 1) .same rfl

theorem Row.of_pending {s t : State} {l : List Instr} (h : Row { s with pending := l } t) : Row s t := by
  cases h with
  | silent start event result => exact .silent start event result
  | considered start event considers result => exact .considered start event considers result

/-- Every step is a row: time may pass, one event takes place, and the arbiter may consider it. -/
theorem step_row {s t : State} (h : step s = .next t) : Row s t := by
  unfold step at h
  split at h
  · exact Host.Outcome.next.inj h ▸ tick_row s
  · exact (exec_row h).of_pending

end Sys2Proof.Machine
end

section
/-! SUPPORT. What a grant is, and the one induction over a step: what time, every event, every grant and the suspend request keep,
a step keeps. -/

namespace Sys2Proof.Machine

/-! ### Grants -/

/-- The operation record of port `p`'s fill (R31, R66). -/
def State.fillRecord (s : State) (p : Port) : OpRecord :=
  { source := .fill p, orphan := false, kind := .fill, range := { first := (s.aperture p).fetch, length := s.fillLength p },
    buffer := none, suspends := 0, unsuspendable := false, busyTime := 0, runTime := 0, mismatch := none,
    generation := some (s.aperture p).generation }

/-- The operation record of the queue head `op` of port `p` (R31). -/
def State.headRecord (s : State) (p : Port) (op : SlotOp) : OpRecord :=
  { source := .queue p (s.queue p).start, orphan := false, kind := .slot op.kind, range := op.range, buffer := op.buffer,
    suspends := 0, unsuspendable := false, busyTime := 0, runTime := 0, mismatch := none, generation := none }

/-- The fill of port `p` that the start check allows (R71). -/
def State.startFill (s : State) (p : Port) : State :=
  (s.modAperture p fun a => { a with inFlight := true }).startOperation (s.fillRecord p)

/-- The suspended record `x` becomes the active one (R49). -/
def State.takeBack (s : State) (x : Suspended) : State :=
  s.withSeq
    { s.seq with active := some x.op, suspended := none, state := .resuming, line := .called .resume, dwellTimer := none }
    { s.arbiter with resumeDue := false }

/-- The grants of a grant point (R59), after the pointer of the class has moved. -/
inductive Granted (s : State) : State → Prop where
  | fillDenied {p : Port} (offered : s.offers (.fill p) = true) : Granted s (s.denyFill p)
  | fillStarted {p : Port} (offered : s.offers (.fill p) = true) : Granted s (s.startFill p)
  | headDenied {p : Port} {op : SlotOp} {d : Nat} (head : (s.queue p).head = some op) (free : s.blockedByHold p = false) :
      Granted s (s.denyHead p d)
  | headStarted {p : Port} {op : SlotOp} (head : (s.queue p).head = some op) (free : s.blockedByHold p = false)
      (read : op.kind.isWrite = false → (s.clearOfWrites fun r => op.range.overlaps r) = true)
      (write : op.kind.isWrite = true → s.seq.suspended = none) : Granted s (s.startHead p op)
  | resumed {x : Suspended} (record : s.seq.suspended = some x) :
      Granted s (s.takeBack x)

/-- A queue head is offered with its peer's hold in NONE, and apart from the suspended operation (R63 to R65). -/
theorem State.offers_head {s : State} {p : Port} {c : Candidate} (hc : c = .readHead p ∨ c = .writeHead p)
    (h : s.offers c = true) :
    ∃ op, (s.queue p).head = some op ∧ s.blockedByHold p = false
      ∧ (op.kind.isWrite = false → (s.clearOfWrites fun r => op.range.overlaps r) = true)
      ∧ (op.kind.isWrite = true → s.seq.suspended = none) := by
  cases hop : (s.queue p).head with
  | none => rcases hc with rfl | rfl <;> simp [State.offers, hop] at h
  | some op =>
    refine ⟨op, rfl, ?_⟩
    rcases hc with rfl | rfl <;>
      · simp only [State.offers, hop, Bool.and_eq_true, Bool.not_eq_true', Option.isNone_iff_eq_none] at h
        obtain ⟨⟨hk, hb⟩, hr⟩ := h
        simp_all

theorem State.grantHead_granted {s : State} {p : Port} {c : Candidate} (hc : c = .readHead p ∨ c = .writeHead p)
    (h : s.offers c = true) : ∃ w, w.core = s.core ∧ w.seq = s.seq ∧ Granted w (s.grantHead p) := by
  obtain ⟨op, hop, hb, hr, hw⟩ := State.offers_head hc h
  unfold State.grantHead
  rw [hop]
  simp only
  have moved {w : State} (e : w = s.moveReadPointer p ∨ w = s.moveWritePointer p) (x : State)
      (hx : x = w.startHead p op ∨ ∃ d, x = w.denyHead p d) : ∃ w, w.core = s.core ∧ w.seq = s.seq ∧ Granted w x := by
    refine ⟨w, by rcases e with rfl | rfl <;> rfl, by rcases e with rfl | rfl <;> rfl, ?_⟩
    rcases hx with rfl | ⟨d, rfl⟩ <;> rcases e with rfl | rfl
    · exact .headStarted hop hb hr hw
    · exact .headStarted hop hb hr hw
    · exact .headDenied hop hb
    · exact .headDenied hop hb
  have e : (if op.kind.isWrite then s.moveWritePointer p else s.moveReadPointer p) = s.moveReadPointer p
      ∨ (if op.kind.isWrite then s.moveWritePointer p else s.moveReadPointer p) = s.moveWritePointer p := by
    split <;> simp
  split
  · exact moved e _ (.inr ⟨_, rfl⟩)
  · exact moved e _ (.inl rfl)

/-- The grant of an offered candidate. -/
theorem State.grant_granted {s : State} {c : Candidate} (h : s.offers c = true) :
    ∃ w, w.core = s.core ∧ w.seq = s.seq ∧ Granted w (s.grant c) := by
  cases c with
  | resume =>
    refine ⟨s, rfl, rfl, ?_⟩
    obtain ⟨x, hx⟩ := Option.isSome_iff_exists.1 h
    have e : s.grant .resume = s.takeBack x := by
      simp only [State.grant, State.grantResume, hx]; rfl
    exact e ▸ .resumed hx
  | fill p =>
    refine ⟨s.moveReadPointer p, rfl, rfl, ?_⟩
    simp only [State.grant, State.grantFill]
    split
    · exact .fillDenied h
    · exact .fillStarted h
  | readHead p => exact State.grantHead_granted (.inl rfl) h
  | writeHead p => exact State.grantHead_granted (.inr rfl) h

theorem State.offers_of_choose {s : State} {c : Candidate} (h : s.choose = some c) : s.offers c = true :=
  List.find?_some h

/-! ### The induction over a step -/

/-- A property of the core that the passing of time, the events, the grants and the suspend request keep. -/
structure Kept (P : State → Prop) : Prop where
  core : ∀ {s t : State}, t.core = s.core → P s → P t
  time : ∀ {s : State} (d : Nat), P s → P (s.elapse d)
  silent : ∀ {s t : State}, P s → Silent s t → P t
  bringing : ∀ {s t : State}, P s → Bringing s t → P t
  granted : ∀ {s t : State}, P s → s.seq.state = .idle → Granted s t → P t

variable {P : State → Prop} {s t : State}

theorem Kept.grantPoint (k : Kept P) (h : P s) : P s.grantPoint := by
  refine grantRepeat_induct (fun t c ht hi hc => ?_) 19 s h
  obtain ⟨w, hw, hs, hg⟩ := State.grant_granted (State.offers_of_choose hc)
  exact k.granted (k.core hw ht) (by rw [hs]; exact hi) hg

theorem Kept.evaluateSuspend (k : Kept P) (h : P s) : P s.evaluateSuspend := by
  rcases s.evaluateSuspend_cases with e | ⟨hs, -, hp, e⟩ | ⟨hs, -, hp, e⟩ <;> rw [e]
  · exact h
  · exact k.bringing h (.sequencer (.requestRaised hs hp))
  · exact k.bringing h (.sequencer (.requestRaisedAndTaken hs hp))

theorem Kept.consider (k : Kept P) (h : P s) : P s.consider := by
  unfold State.consider
  split
  · exact k.grantPoint h
  · exact k.evaluateSuspend h

theorem Kept.passed (k : Kept P) (h : P s) (hw : Passed s t) : P t := by
  rcases hw with e | ⟨d, e⟩
  · exact k.core e h
  · exact k.core e (k.time d h)

theorem Kept.row (k : Kept P) (h : P s) (row : Row s t) : P t := by
  cases row with
  | silent start event result => exact k.core result (k.silent (k.passed h start) event)
  | considered start event considers result =>
    refine k.core result (k.consider (k.core considers ?_))
    exact event.elim (k.silent (k.passed h start)) (k.bringing (k.passed h start))

/-- What is kept by all of these is kept by every step. -/
theorem Kept.step (k : Kept P) (h : P s) (hstep : step s = .next t) : P t := k.row h (step_row hstep)

/-! ### The records under the sequencer's own transitions -/

theorem OpRecord.identity_elapse (d : Nat) (r : OpRecord) : (r.elapse d).identity = r.identity := rfl

/-- The sequencer's own transitions keep both records, but for counts, times and marks. -/
theorem SeqMove.records {q : Sequencer} {a : Arbiter} (m : SeqMove s q a) :
    q.active.map OpRecord.identity = s.seq.active.map OpRecord.identity ∧ q.suspended = s.seq.suspended := by
  cases m with
  | busyPhase state times =>
    refine ⟨?_, rfl⟩
    rw [Option.map_map]
    refine congrArg (fun f => s.seq.active.map f) (funext fun r => ?_)
    obtain ⟨b, hb⟩ := times r
    simp only [Function.comp, hb]; rfl
  | handshakeFailed => exact ⟨by rw [Option.map_map]; rfl, rfl⟩
  | _ => exact ⟨rfl, rfl⟩

theorem Sequencer.elapse_identity (d : Nat) (q : Sequencer) :
    (q.elapse d).active.map OpRecord.identity = q.active.map OpRecord.identity := by
  simp only [Sequencer.elapse]
  split
  · rw [Option.map_map]; rfl
  · rfl

theorem Sequencer.elapse_op (d : Nat) (q : Sequencer) :
    (q.elapse d).suspended.map Suspended.op = q.suspended.map Suspended.op := by
  simp only [Sequencer.elapse, Option.map_map]; rfl

end Sys2Proof.Machine
end

section
/-! SUPPORT. The hold stays exclusive (R131, R132): what each event and grant does to the hold states, the hold timer and the
operations on the flash. -/

namespace Sys2Proof.Machine

/-! ### The drain set -/

theorem State.drained_iff (s : State) (p : Port) : s.drained p = true ↔ ∀ r, s.seq.holds r → r.source.port ≠ p.peer := by
  unfold State.drained Sequencer.holds
  cases s.seq.active <;> cases s.seq.suspended <;> simp [or_imp, forall_and]

/-- Every operation in the records of `t` was issued for the same port as one in those of `s`. -/
def State.SourcesWithin (s t : State) : Prop := ∀ r, t.seq.holds r → ∃ r0, s.seq.holds r0 ∧ r0.source.port = r.source.port

theorem State.SourcesWithin.drained {s t : State} (h : s.SourcesWithin t) {p : Port} (hd : s.drained p = true) :
    t.drained p = true := by
  rw [State.drained_iff] at hd ⊢
  intro r hr
  obtain ⟨r0, h0, e⟩ := h r hr
  exact e ▸ hd r0 h0

theorem State.SourcesWithin.of_seq {s t : State} (h : t.seq = s.seq) : s.SourcesWithin t := fun r hr => ⟨r, h ▸ hr, rfl⟩

theorem OpRecord.source_of_identity {r t : OpRecord} (h : r.identity = t.identity) : r.source = t.source := by
  cases r; cases t; injection h

/-- Records that agree up to counts, times and marks were issued for the same ports. -/
theorem State.SourcesWithin.of_identity {s t : State}
    (ha : t.seq.active.map OpRecord.identity = s.seq.active.map OpRecord.identity)
    (hs : t.seq.suspended.map Suspended.op = s.seq.suspended.map Suspended.op) : s.SourcesWithin t := by
  rintro r (hr | ⟨x, hx, rfl⟩)
  · rw [hr] at ha
    obtain ⟨r0, h0, e⟩ := Option.map_eq_some_iff.1 ha.symm
    exact ⟨r0, .inl h0, congrArg Source.port (OpRecord.source_of_identity e)⟩
  · rw [hx] at hs
    obtain ⟨x0, h0, e⟩ := Option.map_eq_some_iff.1 hs.symm
    exact ⟨x0.op, .inr ⟨x0, h0, rfl⟩, by rw [e]⟩

/-! ### What keeps the hold -/

section
variable {s t : State}

/-- The hold stays exclusive where no hold state changes, the timer neither starts nor stops, and no operation of another port
comes to the flash. -/
theorem HoldExclusive.of_same (h : HoldExclusive s) (hold : ∀ p, t.holdOf p = s.holdOf p)
    (timer : t.hold.timer.isSome = s.hold.timer.isSome) (within : s.SourcesWithin t) : HoldExclusive t where
  one := by rw [hold, hold]; exact h.one
  alone p hp := within.drained (h.alone p (hold p ▸ hp))
  timed := by simp only [timer, hold]; exact h.timed

theorem HoldExclusive.of_hold (h : HoldExclusive s) (hold : t.hold = s.hold) (within : s.SourcesWithin t) : HoldExclusive t :=
  h.of_same (fun p => congrArg (fun x => x.state.get p) hold) (by rw [hold]) within

theorem HoldExclusive.peer_none (h : HoldExclusive s) {p : Port} (hp : s.holdOf p ≠ .none) : s.holdOf p.peer = .none := by
  cases p with
  | A => exact h.one.resolve_left hp
  | B => exact h.one.resolve_right hp

/-- A port with the peer's hold in NONE becomes HELD when nothing of the peer is on the flash. -/
theorem HoldExclusive.held {p : Port} (peer : s.holdOf p.peer = .none) (drained : s.drained p = true)
    (hp : t.holdOf p = .held) (hpeer : t.holdOf p.peer = s.holdOf p.peer) (timer : t.hold.timer.isSome = true)
    (seq : t.seq = s.seq) : HoldExclusive t where
  one := by
    rw [peer] at hpeer
    cases p with
    | A => exact .inr hpeer
    | B => exact .inl hpeer
  alone q hq := by
    rcases Port.eq_or_peer p q with rfl | rfl
    · exact (State.SourcesWithin.of_seq seq).drained drained
    · rw [hpeer, peer] at hq; cases hq
  timed := by simp only [timer, true_iff]; exact ⟨p, hp⟩

/-- The hold of a port ends and the timer stops. -/
theorem HoldExclusive.ended {p : Port} (peer : s.holdOf p.peer = .none) (hp : t.holdOf p = .none)
    (hpeer : t.holdOf p.peer = s.holdOf p.peer) (timer : t.hold.timer = none) : HoldExclusive t := by
  have hnone (q : Port) : t.holdOf q = .none := by
    rcases Port.eq_or_peer p q with rfl | rfl
    · exact hp
    · rw [hpeer, peer]
  exact { one := .inl (hnone _), alone := fun q hq => by simp [hnone] at hq, timed := by simp [timer, hnone] }

theorem HoldExclusive.holdNotice (h : HoldExclusive s) (p : Port) : HoldExclusive (s.holdNotice p) := by
  unfold State.holdNotice
  split
  · next hn =>
    simp only [Bool.and_eq_true, decide_eq_true_eq] at hn
    exact HoldExclusive.held (h.peer_none (by rw [hn.1]; decide)) hn.2 (by simp [State.grantHold_holdOf])
      (by rw [State.grantHold_holdOf, if_neg (Port.peer_ne _)]) (by simp [startTimer]) (by simp)
  · exact h

/-- With no port HELD, before and after, nothing depends on what is on the flash. -/
theorem HoldExclusive.pending (h : HoldExclusive s) {p : Port} (none : s.holdOf p = .none) (peer : s.holdOf p.peer = .none)
    (hp : t.holdOf p ≠ .held) (hpeer : t.holdOf p.peer = s.holdOf p.peer) (timer : t.hold.timer = s.hold.timer) :
    HoldExclusive t := by
  have free (q : Port) : s.holdOf q ≠ .held ∧ t.holdOf q ≠ .held := by
    rcases Port.eq_or_peer p q with rfl | rfl
    · exact ⟨by rw [none]; decide, hp⟩
    · rw [hpeer, peer]; exact ⟨by decide, by decide⟩
  have htimer := h.timed
  exact
    { one := by rw [peer] at hpeer; cases p; exacts [.inr hpeer, .inl hpeer]
      alone := fun q hq => absurd hq (free q).2
      timed := by simpa [timer, free] using htimer }

/-- The operation that starts is of a port whose peer has no hold. -/
theorem HoldExclusive.started (h : HoldExclusive s) {p : Port} {r : OpRecord} (free : s.blockedByHold p = false)
    (hold : t.hold = s.hold) (source : r.source.port = p)
    (records : t.seq.active = some r ∧ t.seq.suspended = s.seq.suspended) : HoldExclusive t where
  one := by simpa only [State.holdOf, hold] using h.one
  alone q hq := by
    simp only [State.holdOf, hold] at hq
    rw [State.drained_iff]
    rintro r' (hr | ⟨x, hx, rfl⟩) hport
    · obtain rfl := Option.some.inj (records.1.symm.trans hr)
      rw [source] at hport
      have : s.holdOf q ≠ .none := by rw [State.holdOf, hq]; decide
      simp [State.blockedByHold, hport] at free
      exact this free
    · exact (s.drained_iff q).1 (h.alone q hq) x.op (.inr ⟨x, records.2 ▸ hx, rfl⟩) hport
  timed := by simpa only [State.holdOf, hold] using h.timed

end

/-! ### The events and the grants -/

theorem HoldExclusive.of_core {s t : State} (e : t.core = s.core) (h : HoldExclusive s) : HoldExclusive t :=
  h.of_same (fun p => congrArg (fun u => u.holdOf p) e) (congrArg (fun u => u.hold.timer.isSome) e)
    (.of_seq (State.seq_of_core e))

theorem HoldExclusive.elapse {s : State} (d : Nat) (h : HoldExclusive s) : HoldExclusive (s.elapse d) :=
  h.of_same (fun _ => rfl) (elapseTimer_isSome d _)
    (.of_identity (s.seq.elapse_identity d) (s.seq.elapse_op d))

theorem HoldExclusive.seqMove {s : State} {q : Sequencer} {a : Arbiter} (m : SeqMove s q a) (h : HoldExclusive s) :
    HoldExclusive (s.withSeq q a) :=
  h.of_hold rfl (.of_identity m.records.1 (congrArg _ m.records.2))

theorem State.SourcesWithin.of_active_removed {s t : State} (ha : t.seq.active = none)
    (hs : t.seq.suspended = s.seq.suspended) : s.SourcesWithin t := by
  rintro r (hr | ⟨x, hx, rfl⟩)
  · rw [ha] at hr; cases hr
  · exact ⟨x.op, .inr ⟨x, hs ▸ hx, rfl⟩, rfl⟩

theorem HoldExclusive.operationEnds {s : State} (h : HoldExclusive s) (r : OpRecord) (st : Status) (d : Byte) (q : SeqState)
    (g k : Nat) (b : Bool) : HoldExclusive (s.operationEnds r st d q g k b) := by
  refine HoldExclusive.of_hold (s := State.complete _ r st d) (HoldExclusive.holdNotice ?_ _) rfl fun r hr => ⟨r, hr, rfl⟩
  exact h.of_hold (by simp [State.withSeq]) (.of_active_removed (by simp) (by simp [State.withSeq]))

theorem HoldExclusive.fillEnds {s : State} (h : HoldExclusive s) (r : OpRecord) (data : List Byte) (g : Nat) :
    HoldExclusive (s.fillEnds r data g) := by
  refine HoldExclusive.of_hold (s := State.holdNotice _ r.source.port) (HoldExclusive.holdNotice ?_ _) rfl
    fun r hr => ⟨r, hr, rfl⟩
  unfold State.deliverFill
  split
  · exact h.of_hold rfl (.of_active_removed rfl rfl)
  · exact h.of_hold (by simp) (.of_active_removed (by simp) (by simp))

@[simp] theorem State.enqueue_seq (s : State) (p : Port) (op : SlotOp) : (s.enqueue p op).seq = s.seq := by
  unfold State.enqueue; simp only; split <;> simp
theorem State.enqueue_hold (s : State) (p : Port) (op : SlotOp) : (s.enqueue p op).hold = s.hold := by
  unfold State.enqueue; simp only; split <;> simp

/-- The sequencer after an allowed queue head was taken (R14, R71). -/
theorem State.startHead_seq (s : State) (p : Port) (op : SlotOp) :
    (s.startHead p op).seq
      = { s.seq with active := some (s.headRecord p op), state := if op.kind.isWrite then .writing else .reading,
                     line := .called (if op.kind.isWrite then .writeEnable else .read) } := by
  unfold State.startHead
  simp only [State.startOperation_seq]
  split <;> simp_all [State.headRecord, OpKind.isWrite]

/-! ### The port reset -/

theorem State.dropHold_seq (s : State) (p : Port) : (s.dropHold p).seq = s.seq := by
  unfold State.dropHold; split <;> rfl

theorem State.dropHold_hold (s : State) (p : Port) :
    (s.dropHold p).hold
      = if s.hold.state.get p = .none then s.hold else { state := s.hold.state.set p .none, duration := 0, timer := none } := by
  unfold State.dropHold State.holdOf; split <;> rfl

theorem State.dropHold_hold_congr {s t : State} (h : t.hold = s.hold) (p : Port) : (t.dropHold p).hold = (s.dropHold p).hold := by
  rw [State.dropHold_hold, State.dropHold_hold, h]

/-- The sequencer and the hold unit after a port reset (R51, R141). -/
theorem State.portReset_seq (s : State) (p : Port) : (s.portReset p).seq = s.seq.orphanFor p := by
  unfold State.portReset State.dropAuthority
  simp only
  split <;> split <;> simp [State.dropHold_seq]

theorem State.portReset_hold (s : State) (p : Port) : (s.portReset p).hold = (s.dropHold p).hold := by
  unfold State.portReset State.dropAuthority
  simp only
  split <;> split <;> simp <;> apply State.dropHold_hold_congr <;> rfl

theorem OpRecord.orphanFor_source (p : Port) (r : OpRecord) : (r.orphanFor p).source = r.source := by
  unfold OpRecord.orphanFor; split <;> rfl

theorem HoldExclusive.portReset {s : State} (h : HoldExclusive s) (p : Port) : HoldExclusive (s.portReset p) := by
  have within : s.SourcesWithin (s.portReset p) := by
    rintro r (hr | ⟨x, hx, rfl⟩)
    · rw [State.portReset_seq] at hr
      obtain ⟨r0, h0, rfl⟩ := Option.map_eq_some_iff.1 hr
      exact ⟨r0, .inl h0, by rw [OpRecord.orphanFor_source]⟩
    · rw [State.portReset_seq] at hx
      obtain ⟨x0, h0, rfl⟩ := Option.map_eq_some_iff.1 hx
      exact ⟨x0.op, .inr ⟨x0, h0, rfl⟩, by rw [OpRecord.orphanFor_source]⟩
  by_cases hp : s.holdOf p = .none
  · exact h.of_hold (by rw [State.portReset_hold, State.dropHold, if_pos hp]) within
  · have e : (s.portReset p).hold = (((s.setHold p .none).setHoldTimer none).setDuration 0).hold := by
      rw [State.portReset_hold, State.dropHold, if_neg hp]
    have hold (q : Port) : (s.portReset p).holdOf q = (s.setHold p .none).holdOf q := congrArg (fun u => u.state.get q) e
    exact .ended (s := s) (h.peer_none hp) (by rw [hold]; simp) (by rw [hold]; simp) (congrArg HoldUnit.timer e)

theorem State.closeByCommit_hold (s : State) (p : Port) : (s.closeByCommit p).hold = s.hold ∧ (s.closeByCommit p).seq = s.seq := by
  unfold State.closeByCommit; simp only; split <;> simp

theorem HoldExclusive.silent {s t : State} (h : HoldExclusive s) (e : Silent s t) : HoldExclusive t := by
  cases e with
  | same => exact h
  | claimed | released | retired | stopped | closed | stalled | stallEnded => exact h.of_hold rfl (.of_seq rfl)
  | flushed => exact h.of_hold (by simp [State.flushQueue]) (.of_seq (by simp [State.flushQueue]))
  | holdAsked none peer => exact h.pending none peer (by simp) (by simp) rfl
  | holdGiven none peer drained => exact .held (s := s) peer drained (by simp) (by simp) rfl rfl
  | @holdRenewed p n held =>
    exact .held (s := s) (h.peer_none (by rw [held]; decide)) (h.alone p held) (by simpa using held) (by simp) rfl rfl
  | sequencer move => exact h.seqMove move
  | timedOut => exact h.operationEnds ..
  | committed =>
    exact h.of_hold (by simp [State.profileTaken, State.closeByCommit_hold, State.setSeqState, State.callLine])
      (.of_identity (by simp [State.profileTaken, State.closeByCommit_hold]) (by simp [State.profileTaken, State.closeByCommit_hold]))
  | poweredOn =>
    exact .ended (s := .reset) (p := .A) rfl rfl rfl rfl

theorem HoldExclusive.bringing {s t : State} (h : HoldExclusive s) (e : Bringing s t) : HoldExclusive t := by
  cases e with
  | enqueued => exact h.of_hold (State.enqueue_hold ..) (.of_seq (State.enqueue_seq ..))
  | started | opened | byteTaken => exact h.of_hold rfl (.of_seq rfl)
  | holdEnded hold => exact .ended (s := s) (h.peer_none hold) (by simp) (by simp) rfl
  | @portReset p => exact h.portReset p
  | sequencer move => exact h.seqMove move
  | operationEnded => exact h.operationEnds ..
  | fillEnded => exact h.fillEnds ..
  | @operationParked r _ _ _ active =>
    refine h.of_hold rfl ?_
    rintro r' (hr | ⟨x, hx, rfl⟩)
    · cases hr
    · obtain rfl := Option.some.inj hx
      exact ⟨r, .inl active, rfl⟩

theorem HoldExclusive.granted {s t : State} (h : HoldExclusive s) (g : Granted s t) : HoldExclusive t := by
  cases g with
  | fillDenied => exact h.of_hold (by simp) (.of_seq (by simp))
  | @fillStarted p offered =>
    simp only [State.offers, Bool.and_eq_true, Bool.not_eq_true'] at offered
    obtain ⟨⟨-, free⟩, -⟩ := offered
    exact h.started (r := s.fillRecord p) free (by simp [State.startFill]) rfl (by simp [State.startFill, State.startOperation_seq])
  | headDenied => exact h.of_hold (by simp) (.of_seq (by simp))
  | @headStarted p op head free =>
    exact h.started (r := s.headRecord p op) free (by simp) rfl (by simp [State.startHead_seq])
  | @resumed x record =>
    refine h.of_hold rfl ?_
    rintro r' (hr | ⟨y, hy, rfl⟩)
    · obtain rfl := Option.some.inj hr
      exact ⟨x.op, .inr ⟨x, record, rfl⟩, rfl⟩
    · cases hy

theorem HoldExclusive.kept : Kept HoldExclusive where
  core e h := h.of_core e
  time d h := h.elapse d
  silent h e := h.silent e
  bringing h e := h.bringing e
  granted h _ g := h.granted g

/-- Settles O52: what every event and grant does to the hold states, the timer and the drain set keeps the hold exclusive. -/
theorem holdStaysExclusive : Obligations.HoldStaysExclusive := by
  unfold Obligations.HoldStaysExclusive
  exact fun s t h hstep => HoldExclusive.kept.step h hstep

end Sys2Proof.Machine
end

section
/-! SUPPORT. The records fit the sequencer state (R32), and one thing ends every wait (the table before R29). -/

namespace Sys2Proof.Machine

/-! ### The sequencer under the shared operations -/

theorem State.operationEnds_seq (s : State) (r : OpRecord) (st : Status) (d : Byte) (q : SeqState) (g k : Nat) (b : Bool) :
    (s.operationEnds r st d q g k b).seq
      = { s.seq with line := .idle, gap := g, handshakeReads := k, active := none, state := q } := by
  simp [State.operationEnds, State.withSeq]

theorem State.operationEnds_arbiter (s : State) (r : OpRecord) (st : Status) (d : Byte) (q : SeqState) (g k : Nat) (b : Bool) :
    (s.operationEnds r st d q g k b).arbiter = { s.arbiter with suspendRequest := b } := by
  simp [State.operationEnds, State.withSeq, State.setSeqState]

theorem State.fillEnds_seq (s : State) (r : OpRecord) (data : List Byte) (g : Nat) :
    (s.fillEnds r data g).seq = { s.seq with line := .idle, gap := g, active := none, state := .idle } := by
  unfold State.fillEnds State.deliverFill; split <;> simp

theorem State.fillEnds_arbiter (s : State) (r : OpRecord) (data : List Byte) (g : Nat) :
    (s.fillEnds r data g).arbiter = s.arbiter := by
  unfold State.fillEnds State.deliverFill; split <;> simp [State.setSeqState]

theorem State.closeByCommit_arbiter (s : State) (p : Port) : (s.closeByCommit p).arbiter = s.arbiter := by
  unfold State.closeByCommit; simp only; split <;> simp

theorem State.profileTaken_seq (s : State) (prof : Profile) : (s.profileTaken prof).seq = s.seq := by
  simp [State.profileTaken, State.closeByCommit_hold]

theorem State.profileTaken_arbiter (s : State) (prof : Profile) : (s.profileTaken prof).arbiter = s.arbiter := by
  simp [State.profileTaken, State.closeByCommit_arbiter]

theorem State.flushQueue_seq (s : State) (p : Port) : (s.flushQueue p).seq = s.seq := by simp [State.flushQueue]
theorem State.flushQueue_arbiter (s : State) (p : Port) : (s.flushQueue p).arbiter = s.arbiter := by simp [State.flushQueue]
theorem State.enqueue_arbiter (s : State) (p : Port) (op : SlotOp) : (s.enqueue p op).arbiter = s.arbiter := by
  unfold State.enqueue; simp only; split <;> simp

theorem State.startFill_seq (s : State) (p : Port) :
    (s.startFill p).seq = { s.seq with active := some (s.fillRecord p), state := .reading, line := .called .read } := by
  simp [State.startFill, State.startOperation_seq, State.fillRecord, OpKind.isWrite]

theorem State.dropHold_arbiter (s : State) (p : Port) : (s.dropHold p).arbiter = s.arbiter := by
  unfold State.dropHold; split <;> rfl

theorem State.portReset_arbiter (s : State) (p : Port) : (s.portReset p).arbiter = s.arbiter := by
  unfold State.portReset State.dropAuthority
  simp only
  split <;> split <;> simp [State.dropHold_arbiter]

theorem State.quietForCommit_iff (s : State) :
    s.quietForCommit = true ↔
      s.seq.state.quiet = true ∧ s.seq.suspended = none ∧ (s.queue .A).hasWaiting = false ∧ (s.queue .B).hasWaiting = false := by
  simp [State.quietForCommit, and_assoc]

theorem State.busyWait_of_suspendable {s : State} (h : s.suspendable = true) : s.seq.state = .busyWait := by
  simp only [State.suspendable, Bool.and_eq_true, decide_eq_true_eq] at h
  exact h.1.1

/-! ### The records -/

theorem OpRecord.of_identity {r t : OpRecord} (h : r.identity = t.identity) :
    r.source = t.source ∧ r.orphan = t.orphan ∧ r.kind = t.kind ∧ r.range = t.range ∧ r.buffer = t.buffer
      ∧ r.generation = t.generation := by
  cases r; cases t; injection h; simp_all

theorem OpRecord.orphanFor_frame (p : Port) (r : OpRecord) :
    (r.orphanFor p).source = r.source ∧ (r.orphanFor p).kind = r.kind ∧ (r.orphanFor p).range = r.range
      ∧ (r.orphanFor p).buffer = r.buffer ∧ (r.orphanFor p).suspends = r.suspends
      ∧ (r.orphanFor p).unsuspendable = r.unsuspendable ∧ (r.orphanFor p).generation = r.generation := by
  unfold OpRecord.orphanFor; split <;> simp

/-- What the fit of the records reads of a record: its class and its range. -/
def OpRecord.footprint (r : OpRecord) : Bool × Range := (r.kind.isWrite, r.range)

theorem OpRecord.footprint_of_identity {r t : OpRecord} (h : r.identity = t.identity) : r.footprint = t.footprint := by
  obtain ⟨-, -, hk, hr, -⟩ := OpRecord.of_identity h
  simp [OpRecord.footprint, hk, hr]

theorem activeFits_congr {x : SeqState} {r t : Option OpRecord} (h : t.map OpRecord.footprint = r.map OpRecord.footprint)
    (hr : activeFits x r) : activeFits x t := by
  have some_of {b : Bool} (hx : ∃ y, r = some y ∧ y.kind.isWrite = b) : ∃ y, t = some y ∧ y.kind.isWrite = b := by
    obtain ⟨y, rfl, hy⟩ := hx
    obtain ⟨z, rfl, e⟩ := Option.map_eq_some_iff.1 h
    exact ⟨z, rfl, (congrArg Prod.fst e).trans hy⟩
  have none_of (hx : r = none) : t = none := by subst hx; simpa using h
  cases x <;> first | exact none_of hr | exact some_of hr

theorem footprint_map_of_identity {r t : Option OpRecord} (h : t.map OpRecord.identity = r.map OpRecord.identity) :
    t.map OpRecord.footprint = r.map OpRecord.footprint := by
  cases r <;> cases t <;> simp_all
  exact OpRecord.footprint_of_identity h

/-- Records of the same classes and ranges fit, in a state for which the active one is right and the suspended one has a place. -/
theorem RecordsFit.of_footprint {q q' : Sequencer} (h : RecordsFit q)
    (ha : q'.active.map OpRecord.footprint = q.active.map OpRecord.footprint)
    (hs : q'.suspended.map (fun x => x.op.footprint) = q.suspended.map fun x => x.op.footprint)
    (state : activeFits q'.state q.active) (place : q.suspended.isSome = true → q'.state = .idle ∨ q'.state = .reading) :
    RecordsFit q' where
  active := activeFits_congr ha state
  place hx := by
    have e := congrArg Option.isSome hs
    simp only [Option.isSome_map] at e
    exact place (e ▸ hx)
  write x hx := by
    rw [hx] at hs
    obtain ⟨y, hy, e⟩ := Option.map_eq_some_iff.1 hs.symm
    exact (congrArg Prod.fst e).symm.trans (h.write y hy)
  apart x r hx hr := by
    rw [hx] at hs
    rw [hr] at ha
    obtain ⟨y, hy, ey⟩ := Option.map_eq_some_iff.1 hs.symm
    obtain ⟨t, ht, et⟩ := Option.map_eq_some_iff.1 ha.symm
    have e1 := congrArg Prod.snd ey
    have e2 := congrArg Prod.snd et
    simp only [OpRecord.footprint] at e1 e2
    rw [← e1, ← e2]
    exact h.apart y t hy ht

theorem RecordsFit.alone {q : Sequencer} (h : RecordsFit q) (idle : q.state ≠ .idle) (reading : q.state ≠ .reading) :
    q.suspended = none := by
  by_contra hs
  exact (h.place (Option.isSome_iff_ne_none.2 hs)).elim idle reading

/-- The sequencer's own transitions stay in the state, or change between two states of the same class of operation, neither of
them IDLE or READING before. -/
theorem SeqMove.state_class {s : State} {q : Sequencer} {a : Arbiter} (m : SeqMove s q a) :
    q.state = s.seq.state
      ∨ activeFits q.state = activeFits s.seq.state ∧ s.seq.state ≠ .idle ∧ s.seq.state ≠ .reading := by
  cases m with
  | begun | writeGoesOn | pollCalled | pollAgain | latencyStarted | handshakeCalled | resetEnabled | delayStarted
  | finalReadCalled | dwellOver | requestRaised => exact .inl rfl
  | busyPhase state => right; rcases state with h | h <;> rw [h] <;> exact ⟨rfl, by decide, by decide⟩
  | requestTaken state | handshakeFailed state | resetStarted state => right; rw [state]; exact ⟨rfl, by decide, by decide⟩
  | resetEnded resetting line outcome =>
    right
    cases h : s.seq.state <;> rw [h] at resetting <;> try cases resetting
    all_goals rcases outcome with rfl | rfl <;> exact ⟨rfl, by decide, by decide⟩
  | requestRaisedAndTaken suspendable =>
    right; rw [State.busyWait_of_suspendable suspendable]; exact ⟨rfl, by decide, by decide⟩

theorem RecordsFit.seqMove {s : State} {q : Sequencer} {a : Arbiter} (m : SeqMove s q a) (h : RecordsFit s.seq) : RecordsFit q := by
  obtain ⟨ha, hs⟩ := m.records
  refine h.of_footprint (footprint_map_of_identity ha) (by rw [hs]) ?_ ?_
  · rcases m.state_class with e | ⟨e, -, -⟩ <;> rw [e] <;> exact h.active
  · rcases m.state_class with e | ⟨-, hi, hr⟩
    · rw [e]; exact h.place
    · intro hx; exact absurd (h.alone hi hr) (Option.isSome_iff_ne_none.1 hx)

theorem RecordsFit.elapse {q : Sequencer} (d : Nat) (h : RecordsFit q) : RecordsFit (q.elapse d) := by
  refine h.of_footprint (footprint_map_of_identity (q.elapse_identity d)) ?_ h.active h.place
  simp only [Sequencer.elapse, Option.map_map]; rfl

theorem RecordsFit.orphanFor {q : Sequencer} (p : Port) (h : RecordsFit q) : RecordsFit (q.orphanFor p) := by
  have e (r : OpRecord) : (r.orphanFor p).footprint = r.footprint := by
    simp [OpRecord.footprint, r.orphanFor_frame p]
  refine h.of_footprint ?_ ?_ h.active h.place
  · simp only [Sequencer.orphanFor, Option.map_map]
    exact congrArg (fun f => q.active.map f) (funext e)
  · simp only [Sequencer.orphanFor, Option.map_map]
    exact congrArg (fun f => q.suspended.map f) (funext fun x => e x.op)

theorem RecordsFit.of_not_suspended {q : Sequencer} (active : activeFits q.state q.active) (h : q.suspended = none) :
    RecordsFit q where
  active := active
  place hx := by rw [h] at hx; cases hx
  write x hx := by rw [h] at hx; cases hx
  apart x r hx := by rw [h] at hx; cases hx

/-- With no active record the records fit in each state that has none, if none is suspended or the state is IDLE. -/
theorem RecordsFit.of_removed {q q' : Sequencer} (h : RecordsFit q) (active : q'.active = none)
    (suspended : q'.suspended = q.suspended) (state : activeFits q'.state none) (place : q'.state = .idle ∨ q.suspended = none) :
    RecordsFit q' where
  active := active ▸ state
  place hx := place.elim .inl fun e => by rw [suspended, e] at hx; cases hx
  write x hx := h.write x (suspended ▸ hx)
  apart x r _ hr := by rw [active] at hr; cases hr

/-! ### The ranges that a grant may take (R65, R66) -/

theorem Range.overlaps_eq_true {r t : Range} :
    r.overlaps t = true ↔ 0 < r.length ∧ 0 < t.length ∧ r.first < t.first + t.length ∧ t.first < r.first + r.length := by
  simp [Range.overlaps, and_assoc]

theorem Range.contains_eq_true {r : Range} {a : Nat} : r.contains a = true ↔ r.first ≤ a ∧ a < r.first + r.length := by
  simp [Range.contains]

theorem State.clearOfWrites_suspended {s : State} {f : Range → Bool} (h : s.clearOfWrites f = true) {x : Suspended}
    (hx : s.seq.suspended = some x) : f x.op.range = false := by
  simp only [State.clearOfWrites, Bool.and_eq_true, State.suspendedRange, hx, Option.map_some, Option.all_some,
    Bool.not_eq_true'] at h
  exact h.2

/-- A fill that starts outside the suspended range ends before it (R66). -/
theorem State.fill_apart_from_suspended {s : State} {p : Port} (h : s.offers (.fill p) = true) {x : Suspended}
    (hx : s.seq.suspended = some x) : (s.fillRecord p).range.overlaps x.op.range = false := by
  simp only [State.offers, Bool.and_eq_true] at h
  have hout := State.clearOfWrites_suspended h.2 hx
  rw [Bool.eq_false_iff, ne_eq, Range.contains_eq_true] at hout
  rw [Bool.eq_false_iff, ne_eq, Range.overlaps_eq_true]
  rintro ⟨-, -, hlt, hgt⟩
  simp only [State.fillRecord, State.fillLength, State.suspendedRange, hx, Option.map_some] at hlt hgt
  by_cases hf : (s.aperture p).fetch < x.op.range.first
  · rw [if_pos hf] at hgt; omega
  · omega

/-- An operation that starts from IDLE apart from the suspended one fits. -/
theorem RecordsFit.started {q : Sequencer} (h : RecordsFit q) (r : OpRecord) (t : Transaction)
    (write : r.kind.isWrite = true → q.suspended = none)
    (apart : ∀ x, q.suspended = some x → r.range.overlaps x.op.range = false) :
    RecordsFit { q with active := some r, state := if r.kind.isWrite then .writing else .reading, line := .called t } where
  active := by
    simp only
    cases hk : r.kind.isWrite
    · exact ⟨r, rfl, hk⟩
    · exact ⟨r, rfl, hk⟩
  place hx := by
    cases hk : r.kind.isWrite
    · exact .inr rfl
    · exact absurd (write hk) (Option.isSome_iff_ne_none.1 hx)
  write := h.write
  apart x r' hx hr := by
    obtain rfl := Option.some.inj hr
    exact apart x hx

theorem RecordsFit.silent {s t : State} (h : RecordsFit s.seq) (e : Silent s t) : RecordsFit t.seq := by
  cases e with
  | same | claimed | released | retired | stopped | closed | stalled | stallEnded | holdAsked | holdGiven | holdRenewed => exact h
  | flushed => rwa [State.flushQueue_seq]
  | sequencer move => exact h.seqMove move
  | timedOut active state =>
    rw [State.operationEnds_seq]
    exact h.of_removed rfl rfl rfl (.inr (h.alone (by rw [state]; decide) (by rw [state]; decide)))
  | committed _ quiet =>
    obtain ⟨hq, hs, -⟩ := (State.quietForCommit_iff s).1 quiet
    have hn : s.seq.active = none := by
      have := h.active
      cases hst : s.seq.state <;> rw [hst] at this hq <;> first | exact this | cases hq
    rw [State.callLine_seq, State.setSeqState_seq, State.profileTaken_seq]
    exact h.of_removed hn rfl rfl (.inr hs)
  | poweredOn => exact .of_not_suspended rfl rfl

theorem RecordsFit.bringing {s t : State} (h : RecordsFit s.seq) (e : Bringing s t) : RecordsFit t.seq := by
  cases e with
  | enqueued => rwa [State.enqueue_seq]
  | started | opened | byteTaken | holdEnded => exact h
  | portReset => rw [State.portReset_seq]; exact h.orphanFor _
  | sequencer move => exact h.seqMove move
  | operationEnded => rw [State.operationEnds_seq]; exact h.of_removed rfl rfl rfl (.inl rfl)
  | fillEnded => rw [State.fillEnds_seq]; exact h.of_removed rfl rfl rfl (.inl rfl)
  | operationParked active state =>
    obtain ⟨r, hr, hw⟩ : ∃ x, s.seq.active = some x ∧ x.kind.isWrite = true := by have := h.active; rwa [state] at this
    obtain rfl := Option.some.inj (active.symm.trans hr)
    exact ⟨rfl, fun _ => .inl rfl, fun x hx => by obtain rfl := Option.some.inj hx; exact hw, fun _ _ _ hr => by cases hr⟩

theorem RecordsFit.granted {s t : State} (h : RecordsFit s.seq) (g : Granted s t) : RecordsFit t.seq := by
  cases g with
  | fillDenied => simpa using h
  | fillStarted offered =>
    rw [State.startFill_seq]
    exact h.started _ .read (fun hw => by cases hw) fun x hx => State.fill_apart_from_suspended offered hx
  | headDenied => simpa using h
  | @headStarted p op head free read write =>
    rw [State.startHead_seq]
    refine h.started (s.headRecord p op) _ write fun x hx => ?_
    cases hk : op.kind.isWrite
    · exact State.clearOfWrites_suspended (read hk) hx
    · rw [write hk] at hx; cases hx
  | @resumed x record =>
    exact .of_not_suspended ⟨x.op, rfl, h.write x record⟩ rfl

theorem RecordsFit.kept : Kept fun s => RecordsFit s.seq where
  core e h := State.seq_of_core e ▸ h
  time d h := h.elapse d
  silent h e := h.silent e
  bringing h e := h.bringing e
  granted h _ g := h.granted g

end Sys2Proof.Machine
end

section
/-! SUPPORT. In every state that waits one thing ends the wait, a raised request waits for the poll, and a suspended record is
watched by its dwell timer until resume-due stands (R43, R48, R78). -/

namespace Sys2Proof.Machine

/-- A step of the sequencer's that leaves the suspended record, its dwell timer and resume-due alone. -/
theorem LineFits.of_undisturbed {s t : State} (h : LineFits s) (line : lineFits t.seq)
    (request : t.arbiter.suspendRequest = true → t.seq.state = .busyWait ∧ t.seq.line.carried = some .poll)
    (dwellTimer : t.seq.dwellTimer.isSome = s.seq.dwellTimer.isSome)
    (suspended : t.seq.suspended.isSome = s.seq.suspended.isSome) (due : t.arbiter.resumeDue = s.arbiter.resumeDue) :
    LineFits t where
  line := line
  request := request
  dwell := by rw [dwellTimer, suspended, due]; exact h.dwell
  due := by rw [suspended, due]; exact h.due
  watched := by rw [dwellTimer, suspended, due]; exact h.watched

theorem LineFits.of_same {s t : State} (h : LineFits s) (seq : t.seq = s.seq)
    (request : t.arbiter.suspendRequest = s.arbiter.suspendRequest) (due : t.arbiter.resumeDue = s.arbiter.resumeDue) :
    LineFits t :=
  h.of_undisturbed (seq ▸ h.line) (by rw [request, seq]; exact h.request) (by rw [seq]) (by rw [seq]) due

theorem LineFits.of_arbiter {s t : State} (h : LineFits s) (seq : t.seq = s.seq) (arbiter : t.arbiter = s.arbiter) :
    LineFits t := h.of_same seq (by rw [arbiter]) (by rw [arbiter])

/-- No request stands but in BUSYWAIT with a poll on the line (R43). -/
theorem LineFits.no_request {s : State} (h : LineFits s) (hs : s.seq.state ≠ .busyWait) : s.arbiter.suspendRequest = false := by
  by_contra hr
  exact hs (h.request (by simpa using hr)).1

theorem LineFits.no_request_of_timer {s : State} (h : LineFits s) (hp : s.seq.pollTimer.isSome = true) :
    s.arbiter.suspendRequest = false := by
  by_contra hr
  obtain ⟨hs, hl⟩ := h.request (by simpa using hr)
  have := h.line
  simp only [lineFits, hs] at this
  rcases this.2.2 with ⟨-, hi⟩ | ⟨hn, -⟩
  · rw [hi] at hl; cases hl
  · rw [hn] at hp; cases hp

/-- Without a suspended record no dwell timer runs and resume-due is false. -/
theorem LineFits.no_dwell {s : State} (h : LineFits s) (hs : s.seq.suspended = none) :
    s.seq.dwellTimer = none ∧ s.arbiter.resumeDue = false := by
  constructor
  · by_contra hd
    have := (h.dwell (Option.isSome_iff_ne_none.2 hd)).1
    rw [hs] at this; cases this
  · by_contra hd
    have := h.due (by simpa using hd)
    rw [hs] at this; cases this

theorem lineFits_elapse (d : Nat) (q : Sequencer) : lineFits (q.elapse d) ↔ lineFits q := by
  simp only [lineFits, Sequencer.elapse_state, Sequencer.elapse_line, Sequencer.elapse_pollTimer,
    Sequencer.elapse_latencyTimer, Sequencer.elapse_recoveryTimer, elapseTimer_isSome, elapseTimer_eq_none,
    Line.carried_elapse, Line.elapse_eq_idle]

theorem LineFits.elapse {s : State} (d : Nat) (h : LineFits s) : LineFits (s.elapse d) :=
  h.of_undisturbed ((lineFits_elapse d s.seq).2 h.line) (by simpa using h.request) (by simp) (by simp) rfl

/-- In a waiting state, the timers that do not run there (the table before R29). -/
theorem lineFits_timers {q : Sequencer} (h : lineFits q) :
    (q.state ≠ .busyWait → q.pollTimer = none) ∧ (q.state ≠ .suspending → q.latencyTimer = none)
      ∧ (q.state.resetting = false → q.recoveryTimer = none)
      ∧ (q.line.carried ≠ none → q.pollTimer = none ∧ q.latencyTimer = none ∧ q.recoveryTimer = none) := by
  have idle_carried (hi : q.line = .idle) : q.line.carried = none := by rw [hi]; rfl
  unfold lineFits at h
  cases hs : q.state <;> simp only [hs] at h <;> simp [SeqState.resetting] <;> grind

/-- What is on the line, and which timers run, after each of the sequencer's own transitions. -/
theorem SeqMove.lineFits {s : State} {q : Sequencer} {a : Arbiter} (m : SeqMove s q a) (h : LineFits s) : lineFits q := by
  obtain ⟨poll, latency, recovery, carried⟩ := lineFits_timers h.line
  have old := h.line
  cases m with
  | begun line => simpa [Machine.lineFits, line, Line.carried] using old
  | writeGoesOn state next =>
    have e : s.seq.line.carried ≠ none := by simp only [Machine.lineFits, state] at old; rcases old.1 with e | e | e <;> simp [e]
    obtain ⟨hp, hl, hr⟩ := carried e
    simp only [Machine.lineFits, state, Line.carried]
    rcases next with rfl | rfl <;> simp [hp, hl, hr]
  | busyPhase state =>
    have hl := latency (by rcases state with e | e <;> rw [e] <;> decide)
    have hr := recovery (by rcases state with e | e <;> rw [e] <;> rfl)
    simp [Machine.lineFits, hl, hr]
  | pollCalled state =>
    simp [Machine.lineFits, state, Line.carried, latency (by rw [state]; decide), recovery (by rw [state]; rfl)]
  | pollAgain state => simp [Machine.lineFits, state, latency (by rw [state]; decide), recovery (by rw [state]; rfl)]
  | requestTaken state =>
    simp [Machine.lineFits, Line.carried, latency (by rw [state]; decide), recovery (by rw [state]; rfl)]
  | latencyStarted state => simp [Machine.lineFits, state, poll (by rw [state]; decide), recovery (by rw [state]; rfl)]
  | handshakeCalled state =>
    simp [Machine.lineFits, state, Line.carried, poll (by rw [state]; decide), recovery (by rw [state]; rfl)]
  | handshakeFailed state line =>
    obtain ⟨-, hl, hr⟩ := carried (by simp [line])
    simp [Machine.lineFits, hl, hr]
  | resetStarted state first =>
    simp only [Machine.lineFits, state] at old
    obtain ⟨-, hp, hl, hr⟩ := old
    simp only [Machine.lineFits, Line.carried]
    rcases first with rfl | rfl <;> simp [hp, hl, hr]
  | resetEnabled resetting line =>
    obtain ⟨hp, hl, hr⟩ := carried (by simp [line])
    cases hs : s.seq.state <;> rw [hs] at resetting <;> try cases resetting
    all_goals simp [Machine.lineFits, hs, hp, hl, hr, Line.carried]
  | delayStarted resetting =>
    cases hs : s.seq.state <;> rw [hs] at resetting <;> try cases resetting
    all_goals simp [Machine.lineFits, hs, poll (by rw [hs]; decide), latency (by rw [hs]; decide)]
  | finalReadCalled resetting =>
    cases hs : s.seq.state <;> rw [hs] at resetting <;> try cases resetting
    all_goals simp [Machine.lineFits, hs, poll (by rw [hs]; decide), latency (by rw [hs]; decide), Line.carried]
  | resetEnded resetting line outcome =>
    obtain ⟨hp, hl, hr⟩ := carried (by simp [line])
    rcases outcome with rfl | rfl <;> simp [Machine.lineFits, hp, hl, hr]
  | dwellOver | requestRaised => exact old
  | requestRaisedAndTaken suspendable =>
    have state := State.busyWait_of_suspendable suspendable
    simp [Machine.lineFits, Line.carried, latency (by rw [state]; decide), recovery (by rw [state]; rfl)]

/-- A request that stands after one of the sequencer's own transitions waits for the poll on the line. -/
theorem SeqMove.request {s : State} {q : Sequencer} {a : Arbiter} (m : SeqMove s q a) (h : LineFits s)
    (ha : a.suspendRequest = true) : q.state = .busyWait ∧ q.line.carried = some .poll := by
  have none_in {x : SeqState} (hs : s.seq.state = x) (hx : x ≠ .busyWait) (hr : s.arbiter.suspendRequest = true) : False := by
    rw [h.no_request (by rw [hs]; exact hx)] at hr; cases hr
  have resets (hs : s.seq.state.resetting = true) (hr : s.arbiter.suspendRequest = true) : False :=
    none_in rfl (by rintro e; rw [e] at hs; cases hs) hr
  cases m with
  | begun line =>
    obtain ⟨hs, hl⟩ := h.request ha
    exact ⟨hs, by rw [line] at hl; exact hl⟩
  | busyPhase state => exact state.elim (fun e => (none_in e (by decide) ha).elim) fun e => (none_in e (by decide) ha).elim
  | writeGoesOn state | latencyStarted state | handshakeCalled state | handshakeFailed state | resetStarted state =>
    exact (none_in state (by decide) ha).elim
  | pollCalled state timer => rw [h.no_request_of_timer timer] at ha; cases ha
  | pollAgain state request => rw [request] at ha; cases ha
  | requestTaken | requestRaisedAndTaken => cases ha
  | resetEnabled resetting | delayStarted resetting | finalReadCalled resetting | resetEnded resetting =>
    exact (resets resetting ha).elim
  | dwellOver => exact h.request ha
  | requestRaised suspendable timer =>
    have state := State.busyWait_of_suspendable suspendable
    have old := h.line
    simp only [Machine.lineFits, state, timer] at old
    exact ⟨state, by simpa using old.2.2⟩

theorem SeqMove.dwellTimer {s : State} {q : Sequencer} {a : Arbiter} (m : SeqMove s q a) :
    q.dwellTimer = s.seq.dwellTimer ∧ a.resumeDue = s.arbiter.resumeDue
      ∨ q.dwellTimer = none ∧ a.resumeDue = true ∧ q.suspended.isSome = true := by
  cases m with
  | dwellOver record => exact .inr ⟨rfl, rfl, record⟩
  | _ => exact .inl ⟨rfl, rfl⟩

theorem LineFits.seqMove {s : State} {q : Sequencer} {a : Arbiter} (m : SeqMove s q a) (h : LineFits s) :
    LineFits (s.withSeq q a) := by
  rcases m.dwellTimer with ⟨hd, hr⟩ | ⟨hd, hr, hs⟩
  · exact h.of_undisturbed (m.lineFits h) (m.request h) (congrArg _ hd) (congrArg _ m.records.2) hr
  · exact
      { line := m.lineFits h
        request := m.request h
        dwell := fun e => by simp [State.withSeq, hd] at e
        due := fun _ => hs
        watched := fun _ => .inr hr }

/-! ### The other events, and the grants -/

theorem LineFits.operationEnds {s : State} (h : LineFits s) (r : OpRecord) (st : Status) (d : Byte) {q : SeqState} (g k : Nat)
    {b : Bool} (carried : s.seq.line.carried ≠ none ∨ s.seq.state = .reading) (hq : q = .idle ∨ q = .fault) (hb : b = false) :
    LineFits (s.operationEnds r st d q g k b) := by
  have timers : s.seq.pollTimer = none ∧ s.seq.latencyTimer = none ∧ s.seq.recoveryTimer = none := by
    obtain ⟨-, -, -, c⟩ := lineFits_timers h.line
    refine carried.elim c fun hs => c ?_
    have := h.line
    simp only [lineFits, hs] at this
    simp [this.1]
  obtain ⟨hp, hl, hr⟩ := timers
  refine h.of_undisturbed ?_ ?_ ?_ ?_ ?_
  · rw [State.operationEnds_seq]
    rcases hq with rfl | rfl <;> simp [lineFits, hp, hl, hr]
  · rw [State.operationEnds_arbiter]; intro e; exact absurd (hb.symm.trans e) (by decide)
  · rw [State.operationEnds_seq]
  · rw [State.operationEnds_seq]
  · rw [State.operationEnds_arbiter]

theorem LineFits.silent {s t : State} (h : LineFits s) (e : Silent s t) : LineFits t := by
  cases e with
  | same | claimed | released | retired | stopped | closed | stalled | stallEnded | holdAsked | holdGiven | holdRenewed =>
    exact h.of_arbiter rfl rfl
  | flushed => exact h.of_arbiter (s.flushQueue_seq _) (s.flushQueue_arbiter _)
  | sequencer move => exact h.seqMove move
  | timedOut _ _ line => exact h.operationEnds _ _ _ _ _ (.inl (by simp [line])) (.inr rfl) rfl
  | committed _ quiet first =>
    obtain ⟨hq, -, -⟩ := (State.quietForCommit_iff s).1 quiet
    have old := h.line
    have timers : s.seq.pollTimer = none ∧ s.seq.latencyTimer = none ∧ s.seq.recoveryTimer = none := by
      cases hst : s.seq.state <;> rw [hst] at hq <;> try cases hq
      all_goals simp only [lineFits, hst] at old; exact old.2
    obtain ⟨hp, hl, hrec⟩ := timers
    have seq := s.profileTaken_seq
    have arbiter := s.profileTaken_arbiter
    refine h.of_undisturbed ?_ ?_ ?_ ?_ ?_
    · rcases first with rfl | rfl <;> simp [lineFits, seq, hp, hl, hrec, Line.carried]
    · have hn := h.no_request (fun e => by rw [e] at hq; cases hq)
      simp [State.callLine, State.setSeqState, arbiter, hn]
    · simp [seq]
    · simp [seq]
    · simp [State.callLine, State.setSeqState, arbiter]
  | poweredOn => exact ⟨⟨rfl, rfl, rfl, rfl⟩, nofun, nofun, nofun, nofun⟩

theorem LineFits.bringing {s t : State} (hr : RecordsFit s.seq) (h : LineFits s) (e : Bringing s t) : LineFits t := by
  cases e with
  | enqueued => exact h.of_arbiter (s.enqueue_seq _ _) (s.enqueue_arbiter _ _)
  | started | opened | byteTaken | holdEnded => exact h.of_arbiter rfl rfl
  | portReset =>
    refine h.of_undisturbed ?_ ?_ ?_ ?_ ?_
    · rw [State.portReset_seq]; exact h.line
    · rw [State.portReset_seq, State.portReset_arbiter]; exact h.request
    · rw [State.portReset_seq]; rfl
    · rw [State.portReset_seq]; simp [Sequencer.orphanFor]
    · rw [State.portReset_arbiter]
  | sequencer move => exact h.seqMove move
  | operationEnded active kind state line =>
    refine h.operationEnds _ _ _ _ _ (.inl line) (.inl rfl) ?_
    rcases state with ⟨hs, rfl⟩ | ⟨hs, rfl⟩ | ⟨hs, rfl⟩ | ⟨-, rfl⟩
    · exact h.no_request (by rw [hs]; decide)
    · exact h.no_request (by rw [hs]; decide)
    · exact h.no_request (by rw [hs]; decide)
    · rfl
  | fillEnded active kind size state =>
    have old := h.line
    simp only [lineFits, state] at old
    obtain ⟨-, hp, hl, hrec⟩ := old
    refine h.of_undisturbed ?_ ?_ ?_ ?_ ?_
    · simp [State.fillEnds_seq, lineFits, hp, hl, hrec]
    · rw [State.fillEnds_arbiter, h.no_request (by rw [state]; decide)]; nofun
    · rw [State.fillEnds_seq]
    · rw [State.fillEnds_seq]
    · rw [State.fillEnds_arbiter]
  | operationParked active state line =>
    obtain ⟨-, -, -, carried⟩ := lineFits_timers h.line
    obtain ⟨hp, hl, hrec⟩ := carried (by simp [line])
    have hdue := (h.no_dwell (hr.alone (by rw [state]; decide) (by rw [state]; decide))).2
    exact
      { line := by simp [State.operationParks, lineFits, hp, hl, hrec]
        request := fun e => by
          rw [State.operationParks, State.modSeq_arbiter, h.no_request (by rw [state]; decide)] at e; cases e
        dwell := fun _ => ⟨rfl, hdue⟩
        due := fun _ => rfl
        watched := fun _ => .inl rfl }

/-- An operation starts from IDLE, where no timer runs and no request stands. -/
theorem LineFits.started {s t : State} (h : LineFits s) (idle : s.seq.state = .idle) {r : OpRecord} {w : Bool}
    (seq : t.seq = { s.seq with active := some r, state := if w then .writing else .reading,
                                line := .called (if w then .writeEnable else .read) })
    (arbiter : t.arbiter = s.arbiter) : LineFits t := by
  have old := h.line
  simp only [lineFits, idle] at old
  obtain ⟨-, hp, hl, hrec⟩ := old
  refine h.of_undisturbed ?_ ?_ (by rw [seq]) (by rw [seq]) (by rw [arbiter])
  · rw [seq]; cases w <;> simp [lineFits, Line.carried, hp, hl, hrec]
  · rw [arbiter, h.no_request (by rw [idle]; decide)]; nofun

theorem LineFits.granted {s t : State} (h : LineFits s) (idle : s.seq.state = .idle) (g : Granted s t) : LineFits t := by
  cases g with
  | fillDenied => exact h.of_arbiter (by simp) (by simp)
  | fillStarted => exact h.started (w := false) idle (s.startFill_seq _) (by simp [State.startFill])
  | headDenied => exact h.of_arbiter (by simp) (by simp)
  | headStarted => exact h.started idle (s.startHead_seq _ _) (by simp)
  | @resumed x record =>
    have old := h.line
    simp only [lineFits, idle] at old
    obtain ⟨-, hp, hl, hrec⟩ := old
    exact
      { line := ⟨rfl, hp, hl, hrec⟩
        request := fun e => by
          have hn := h.no_request (by rw [idle]; decide)
          exact absurd (hn.symm.trans e) (by decide)
        dwell := nofun
        due := nofun
        watched := nofun }

theorem LineFits.kept : Kept fun s => RecordsFit s.seq ∧ LineFits s where
  core e h := ⟨RecordsFit.kept.core e h.1, h.2.of_same (State.seq_of_core e) (State.suspendRequest_of_core e) (State.resumeDue_of_core e)⟩
  time d h := ⟨RecordsFit.kept.time d h.1, h.2.elapse d⟩
  silent h e := ⟨h.1.silent e, h.2.silent e⟩
  bringing h e := ⟨h.1.bringing e, h.2.bringing h.1 e⟩
  granted h hi g := ⟨h.1.granted g, h.2.granted hi g⟩

/-- Settles O53: what every event and grant does to the records, the line and the timers keeps them in step with the state. -/
theorem sequencerStaysConsistent : Obligations.SequencerStaysConsistent := by
  unfold Obligations.SequencerStaysConsistent
  exact fun s t hr hl hstep => LineFits.kept.step ⟨hr, hl⟩ hstep

end Sys2Proof.Machine
end

section
/-! SUPPORT. No operation is suspended more often than the committed profile allows (R74, R152). -/

namespace Sys2Proof.Machine

/-- A request stands for the active operation, or it is in the handshake. -/
def State.suspendStands (s : State) : Prop := s.arbiter.suspendRequest = true ∨ s.seq.state = .suspending

/-- What bounds an active record: its count, and while a suspend stands for it, that another one is allowed. -/
structure SuspendBound (limit : Nat) (stands : Prop) (r : OpRecord) : Prop where
  count : r.suspends ≤ limit
  standing : stands → r.suspends < limit ∧ r.unsuspendable = false

theorem SuspendsBounded.bound {s : State} (h : SuspendsBounded s) {r : OpRecord} (hr : s.seq.active = some r) :
    SuspendBound (s.prof.num .maxSuspends) s.suspendStands r :=
  ⟨h.active r hr, h.standing r hr⟩

theorem SuspendsBounded.of_no_records {s : State} (valid : ∀ prof, s.profile.committed = some prof → prof.valid = true)
    (active : s.seq.active = none) (suspended : s.seq.suspended = none) : SuspendsBounded s where
  profile := valid
  active r hr := by rw [active] at hr; cases hr
  suspended x hx := by rw [suspended] at hx; cases hx
  standing r hr := by rw [active] at hr; cases hr

/-- The counts stay bounded under the same profile where each record is bounded. -/
theorem SuspendsBounded.of_bound {s t : State} (h : SuspendsBounded s) (committed : t.profile.committed = s.profile.committed)
    (active : ∀ r, t.seq.active = some r → SuspendBound (s.prof.num .maxSuspends) t.suspendStands r)
    (suspended : ∀ x, t.seq.suspended = some x → 1 ≤ x.op.suspends ∧ x.op.suspends ≤ s.prof.num .maxSuspends) :
    SuspendsBounded t := by
  have prof : t.prof = s.prof := by simp only [State.prof, committed]
  exact
    { profile := committed ▸ h.profile
      active := fun r hr => prof ▸ (active r hr).count
      suspended := prof ▸ suspended
      standing := fun r hr => prof ▸ (active r hr).standing }

theorem SuspendsBounded.of_same {s t : State} (h : SuspendsBounded s) (committed : t.profile.committed = s.profile.committed)
    (seq : t.seq = s.seq) (request : t.arbiter.suspendRequest = s.arbiter.suspendRequest) : SuspendsBounded t := by
  refine h.of_bound committed (fun r hr => ?_) (seq ▸ h.suspended)
  rw [seq] at hr
  simpa only [State.suspendStands, seq, request] using h.bound hr

theorem SuspendsBounded.of_frame {s t : State} (h : SuspendsBounded s) (profile : t.profile = s.profile) (seq : t.seq = s.seq)
    (arbiter : t.arbiter = s.arbiter) : SuspendsBounded t :=
  h.of_same (by rw [profile]) seq (by rw [arbiter])

theorem SuspendsBounded.elapse {s : State} (d : Nat) (h : SuspendsBounded s) : SuspendsBounded (s.elapse d) := by
  refine h.of_bound rfl (fun r hr => ?_) fun x hx => ?_
  · simp only [State.elapse_seq, Sequencer.elapse] at hr
    split at hr
    · obtain ⟨r0, h0, rfl⟩ := Option.map_eq_some_iff.1 hr
      exact ⟨(h.bound h0).count, (h.bound h0).standing⟩
    · exact h.bound hr
  · obtain ⟨x0, h0, rfl⟩ := Option.map_eq_some_iff.1 hx
    exact h.suspended x0 h0

theorem State.suspendable_bound {s : State} (h : s.suspendable = true) {r : OpRecord} (hr : s.seq.active = some r) (stands : Prop) :
    SuspendBound (s.prof.num .maxSuspends) stands r := by
  simp only [State.suspendable, hr, Option.any_some, Bool.and_eq_true, decide_eq_true_eq, Bool.not_eq_true'] at h
  obtain ⟨-, ⟨⟨-, hlt⟩, hu⟩, -⟩ := h
  exact ⟨hlt.le, fun _ => ⟨hlt, hu⟩⟩

/-- After each of the sequencer's own transitions the active record is bounded. -/
theorem SeqMove.bound {s : State} {q : Sequencer} {a : Arbiter} (m : SeqMove s q a) (hl : LineFits s) (h : SuspendsBounded s)
    {r : OpRecord} (hr : q.active = some r) : SuspendBound (s.prof.num .maxSuspends) (s.withSeq q a).suspendStands r := by
  have none_in {x : SeqState} (hs : s.seq.state = x) (hx : x ≠ .busyWait) : s.arbiter.suspendRequest = false :=
    hl.no_request (by rw [hs]; exact hx)
  cases m with
  | begun | writeGoesOn | pollCalled | pollAgain | latencyStarted | handshakeCalled | resetEnabled | delayStarted
  | finalReadCalled | dwellOver => exact h.bound hr
  | busyPhase state times =>
    obtain ⟨r0, h0, rfl⟩ := Option.map_eq_some_iff.1 hr
    obtain ⟨b, e⟩ := times r0
    have hn := state.elim (none_in · (by decide)) (none_in · (by decide))
    refine ⟨by rw [e]; exact (h.bound h0).count, fun hst => ?_⟩
    rcases hst with hst | hst
    · exact absurd (hn.symm.trans hst) (by decide)
    · cases hst
  | requestTaken state request =>
    exact ⟨(h.bound hr).count, fun _ => (h.bound hr).standing (.inl request)⟩
  | handshakeFailed state =>
    obtain ⟨r0, h0, rfl⟩ := Option.map_eq_some_iff.1 hr
    refine ⟨(h.bound h0).count, fun hst => ?_⟩
    rcases hst with hst | hst
    · exact absurd ((none_in state (by decide)).symm.trans hst) (by decide)
    · cases hst
  | resetStarted state =>
    refine ⟨(h.bound hr).count, fun hst => ?_⟩
    rcases hst with hst | hst
    · exact (h.bound hr).standing (.inl hst)
    · cases hst
  | resetEnded resetting line outcome =>
    refine ⟨(h.bound hr).count, fun hst => ?_⟩
    rcases hst with hst | hst
    · exact (h.bound hr).standing (.inl hst)
    · rcases outcome with rfl | rfl <;> cases hst
  | requestRaised suspendable | requestRaisedAndTaken suspendable => exact State.suspendable_bound suspendable hr _

theorem SuspendsBounded.seqMove {s : State} {q : Sequencer} {a : Arbiter} (m : SeqMove s q a) (hl : LineFits s)
    (h : SuspendsBounded s) : SuspendsBounded (s.withSeq q a) :=
  h.of_bound rfl (fun _ hr => m.bound hl h hr) fun x hx => h.suspended x (by rw [← m.records.2]; exact hx)

/-- The end of an operation leaves no active record. -/
theorem SuspendsBounded.of_removed {s t : State} (h : SuspendsBounded s) (profile : t.profile = s.profile)
    (active : t.seq.active = none) (suspended : t.seq.suspended = s.seq.suspended) : SuspendsBounded t :=
  h.of_bound (by rw [profile]) (fun r hr => by rw [active] at hr; cases hr) (suspended ▸ h.suspended)

theorem State.operationEnds_profile (s : State) (r : OpRecord) (st : Status) (d : Byte) (q : SeqState) (g k : Nat) (b : Bool) :
    (s.operationEnds r st d q g k b).profile = s.profile := by
  simp [State.operationEnds, State.withSeq, State.setSeqState]

theorem State.fillEnds_profile (s : State) (r : OpRecord) (data : List Byte) (g : Nat) :
    (s.fillEnds r data g).profile = s.profile := by
  unfold State.fillEnds State.deliverFill; split <;> simp [State.setSeqState]

theorem State.portReset_committed (s : State) (p : Port) : (s.portReset p).profile.committed = s.profile.committed := by
  unfold State.portReset State.dropAuthority
  simp only
  split <;> split <;> simp

theorem SuspendsBounded.portReset {s : State} (p : Port) (h : SuspendsBounded s) : SuspendsBounded (s.portReset p) := by
  refine h.of_bound (s.portReset_committed p) (fun r hr => ?_) fun x hx => ?_
  · rw [State.portReset_seq] at hr
    obtain ⟨r0, h0, rfl⟩ := Option.map_eq_some_iff.1 hr
    obtain ⟨-, -, -, -, hs, hu, -⟩ := r0.orphanFor_frame p
    have stands : (s.portReset p).suspendStands = s.suspendStands := by
      simp only [State.suspendStands, State.portReset_arbiter, State.portReset_seq, Sequencer.orphanFor]
    exact ⟨by rw [hs]; exact (h.bound h0).count, by rw [hs, hu, stands]; exact (h.bound h0).standing⟩
  · rw [State.portReset_seq] at hx
    obtain ⟨x0, h0, rfl⟩ := Option.map_eq_some_iff.1 hx
    obtain ⟨-, -, -, -, hs, -⟩ := x0.op.orphanFor_frame p
    rw [show (x0.op.orphanFor p).suspends = _ from hs]
    exact h.suspended x0 h0

theorem SuspendsBounded.silent {s t : State} (hr : RecordsFit s.seq) (hl : LineFits s) (h : SuspendsBounded s) (e : Silent s t) :
    SuspendsBounded t := by
  cases e with
  | same | claimed | released | retired | stopped | closed | stalled | stallEnded | holdAsked | holdGiven | holdRenewed =>
    exact h.of_frame rfl rfl rfl
  | flushed => exact h.of_frame (s.flushQueue_configuration _).1 (s.flushQueue_seq _) (s.flushQueue_arbiter _)
  | sequencer move => exact h.seqMove move hl
  | timedOut => exact h.of_removed (s.operationEnds_profile ..) (by rw [State.operationEnds_seq]) (by rw [State.operationEnds_seq])
  | @committed prof t valid quiet =>
    obtain ⟨hq, hs, -⟩ := (State.quietForCommit_iff s).1 quiet
    have hn : s.seq.active = none := by
      have := hr.active
      cases hst : s.seq.state <;> rw [hst] at this hq <;> first | exact this | cases hq
    have active : ((s.profileTaken prof |>.setSeqState .initializing).callLine t).seq.active = none := by
      simp [State.profileTaken_seq, hn]
    have suspended : ((s.profileTaken prof |>.setSeqState .initializing).callLine t).seq.suspended = none := by
      simp [State.profileTaken_seq, hs]
    refine .of_no_records (fun p hp => ?_) active suspended
    have : p = prof := by simpa [State.callLine, State.setSeqState, State.profileTaken, eq_comm] using hp
    exact this ▸ valid
  | poweredOn => exact .of_no_records (fun p hp => by cases hp) rfl rfl

theorem SuspendsBounded.bringing {s t : State} (hl : LineFits s) (h : SuspendsBounded s) (e : Bringing s t) : SuspendsBounded t := by
  cases e with
  | enqueued => exact h.of_frame (s.enqueue_configuration _ _).1 (s.enqueue_seq _ _) (s.enqueue_arbiter _ _)
  | started | opened | byteTaken | holdEnded => exact h.of_frame rfl rfl rfl
  | portReset => exact h.portReset _
  | sequencer move => exact h.seqMove move hl
  | operationEnded =>
    exact h.of_removed (s.operationEnds_profile ..) (by rw [State.operationEnds_seq]) (by rw [State.operationEnds_seq])
  | fillEnded => exact h.of_removed (s.fillEnds_profile ..) (by rw [State.fillEnds_seq]) (by rw [State.fillEnds_seq])
  | operationParked active state =>
    refine h.of_bound rfl (fun r hr => by cases hr) fun x hx => ?_
    obtain rfl := Option.some.inj hx
    exact ⟨Nat.le_add_left _ _, ((h.bound active).standing (.inr state)).1⟩

/-- An operation that starts has not been suspended, and no suspend stands for it. -/
theorem SuspendsBounded.started {s t : State} (h : SuspendsBounded s) (hl : LineFits s) (idle : s.seq.state = .idle)
    (profile : t.profile = s.profile) (arbiter : t.arbiter = s.arbiter) {r : OpRecord} (fresh : r.suspends = 0)
    (active : t.seq.active = some r) (suspended : t.seq.suspended = s.seq.suspended) (state : t.seq.state ≠ .suspending) :
    SuspendsBounded t := by
  refine h.of_bound (by rw [profile]) (fun r' hr' => ?_) (suspended ▸ h.suspended)
  obtain rfl := Option.some.inj (active.symm.trans hr')
  refine ⟨by rw [fresh]; exact Nat.zero_le _, fun hst => ?_⟩
  rcases hst with hst | hst
  · rw [arbiter, hl.no_request (by rw [idle]; decide)] at hst; cases hst
  · exact absurd hst state

theorem SuspendsBounded.granted {s t : State} (hl : LineFits s) (idle : s.seq.state = .idle) (h : SuspendsBounded s)
    (g : Granted s t) : SuspendsBounded t := by
  cases g with
  | fillDenied => exact h.of_frame (by simp) (by simp) (by simp)
  | fillStarted =>
    exact h.started hl idle (by simp [State.startFill]) (by simp [State.startFill]) rfl (by rw [State.startFill_seq])
      (by rw [State.startFill_seq]) (by rw [State.startFill_seq]; simp)
  | headDenied => exact h.of_frame (by simp) (by simp) (by simp)
  | headStarted =>
    exact h.started hl idle (by simp) (by simp) rfl (by rw [State.startHead_seq])
      (by rw [State.startHead_seq]) (by rw [State.startHead_seq]; simp only; split <;> decide)
  | @resumed x record =>
    refine h.of_bound rfl (fun r hr => ?_) fun y hy => by cases hy
    obtain rfl := Option.some.inj hr
    refine ⟨(h.suspended x record).2, fun hst => ?_⟩
    rcases hst with hst | hst
    · exact absurd ((hl.no_request (by rw [idle]; decide)).symm.trans hst) (by decide)
    · cases hst

theorem SuspendsBounded.kept : Kept fun s => (RecordsFit s.seq ∧ LineFits s) ∧ SuspendsBounded s where
  core e h := ⟨LineFits.kept.core e h.1, h.2.of_same (congrArg (fun u => u.profile.committed) e) (State.seq_of_core e)
    (State.suspendRequest_of_core e)⟩
  time d h := ⟨LineFits.kept.time d h.1, h.2.elapse d⟩
  silent h e := ⟨LineFits.kept.silent h.1 e, h.2.silent h.1.1 h.1.2 e⟩
  bringing h e := ⟨LineFits.kept.bringing h.1 e, h.2.bringing h.1.2 e⟩
  granted h hi g := ⟨LineFits.kept.granted h.1 hi g, h.2.granted h.1.2 hi g⟩

/-- Settles O54: an operation in the handshake is below the maximum, so that the confirmation keeps the bound. -/
theorem suspendCountsStayBounded : Obligations.SuspendCountsStayBounded := by
  unfold Obligations.SuspendCountsStayBounded
  exact fun s t hr hl h hstep => (SuspendsBounded.kept.step ⟨⟨hr, hl⟩, h⟩ hstep).2

end Sys2Proof.Machine
end

section
/-! SUPPORT. The shape of a ring (R2) by the class of each slot, and what each operation on the ring makes of it. -/

namespace Sys2Proof.Machine

/-! ### Places in the ring -/

theorem Fin8.ofNat_add (a b : Nat) : Fin.ofNat 8 (a + b) = Fin.ofNat 8 a + Fin.ofNat 8 b := by
  apply Fin.ext; simp [Fin.val_add, Nat.add_mod]

theorem Fin8.place_succ (r : Fin 8) (m : Nat) : r + Fin.ofNat 8 m + 1 = r + Fin.ofNat 8 (m + 1) := by
  rw [Fin8.ofNat_add, ← add_assoc]; rfl

/-- Every slot stands at one place after the retire index. -/
theorem Fin8.exists_place (r n : Fin 8) : ∃ i, i < 8 ∧ n = r + Fin.ofNat 8 i :=
  ⟨(n - r).val, (n - r).isLt, by revert r n; decide⟩

theorem Fin8.place_inj {r : Fin 8} {i j : Nat} (hi : i < 8) (hj : j < 8) (h : r + Fin.ofNat 8 i = r + Fin.ofNat 8 j) : i = j := by
  have := congrArg Fin.val (add_left_cancel h)
  simp only [Fin.val_ofNat] at this
  omega

theorem Queue.fromRetire_of_place {q : Queue} {i : Nat} {n : Fin 8} (h : q.retire + Fin.ofNat 8 i = n) :
    q.fromRetire i = q.slots[n] := by subst h; rfl

@[simp] theorem Queue.setSlot_slots (q : Queue) (n m : Fin 8) (x : Slot) :
    (q.setSlot n x).slots[m] = if m = n then x else q.slots[m] := by
  simp only [Queue.setSlot, Fin.getElem_fin, Vector.getElem_set, Fin.ext_iff, eq_comm]

/-! ### The shape by classes -/

/-- The four classes of slots (R1). -/
inductive SlotClass where
  | done | active | queued | free
  deriving DecidableEq

/-- The class of a slot. -/
def Slot.cls : Slot → SlotClass
  | .free => .free
  | .queued _ => .queued
  | .active _ => .active
  | .done _ _ => .done

theorem Slot.isDone_iff (x : Slot) : x.isDone = true ↔ x.cls = .done := by cases x <;> simp [Slot.isDone, Slot.cls]
theorem Slot.isActive_iff (x : Slot) : x.isActive = true ↔ x.cls = .active := by cases x <;> simp [Slot.isActive, Slot.cls]
theorem Slot.isQueued_iff (x : Slot) : x.isQueued = true ↔ x.cls = .queued := by cases x <;> simp [Slot.isQueued, Slot.cls]
theorem Slot.isFree_iff (x : Slot) : x.isFree = true ↔ x.cls = .free := by cases x <;> simp [Slot.isFree, Slot.cls]

/-- The class that R2 gives the slot `i` places after the retire index. -/
def ringClass (done active queued i : Nat) : SlotClass :=
  if i < done then .done else if i < done + active then .active else if i < done + active + queued then .queued else .free

theorem ringShape_iff (q : Queue) (d a k : Nat) :
    RingShape q d a k ↔
      (d + a + k ≤ 8 ∧ a ≤ 1) ∧ (∀ i, i < 8 → (q.fromRetire i).cls = ringClass d a k i)
        ∧ q.start = q.retire + Fin.ofNat 8 (d + a) ∧ q.post = q.retire + Fin.ofNat 8 (d + a + k) := by
  constructor
  · rintro ⟨size, one, hd, ha, hk, hf, start, post⟩
    refine ⟨⟨size, one⟩, fun i hi => ?_, start, post⟩
    unfold ringClass
    split
    · next h => exact (Slot.isDone_iff _).1 (hd i h)
    · next h =>
      split
      · next h' => exact (Slot.isActive_iff _).1 (ha i (by omega) h')
      · next h' =>
        split
        · next h'' => exact (Slot.isQueued_iff _).1 (hk i (by omega) h'')
        · exact (Slot.isFree_iff _).1 (hf i (by omega) hi)
  · rintro ⟨⟨size, one⟩, hc, start, post⟩
    exact
      { size := size
        oneActive := one
        dones := fun i hi => (Slot.isDone_iff _).2 ((hc i (by omega)).trans (by simp [ringClass, hi]))
        actives := fun i h1 h2 => (Slot.isActive_iff _).2 ((hc i (by omega)).trans (by
          rw [ringClass, if_neg (by omega), if_pos h2]))
        queueds := fun i h1 h2 => (Slot.isQueued_iff _).2 ((hc i (by omega)).trans (by
          rw [ringClass, if_neg (by omega), if_neg (by omega), if_pos h2]))
        frees := fun i h1 h2 => (Slot.isFree_iff _).2 ((hc i h2).trans (by
          rw [ringClass, if_neg (by omega), if_neg (by omega), if_neg (by omega)]))
        start := start
        post := post }

section
variable {q : Queue} {d a k : Nat}

theorem RingShape.cls (h : RingShape q d a k) {i : Nat} (hi : i < 8) : (q.fromRetire i).cls = ringClass d a k i :=
  ((ringShape_iff q d a k).1 h).2.1 i hi

/-- The place of a slot tells its class. -/
theorem RingShape.exists_place (h : RingShape q d a k) (n : Fin 8) :
    ∃ i, i < 8 ∧ n = q.retire + Fin.ofNat 8 i ∧ q.slots[n].cls = ringClass d a k i := by
  obtain ⟨i, hi, rfl⟩ := Fin8.exists_place q.retire n
  exact ⟨i, hi, rfl, h.cls hi⟩

theorem ringClass_eq_active {i : Nat} : ringClass d a k i = .active ↔ d ≤ i ∧ i < d + a := by
  unfold ringClass; split_ifs <;> simp <;> omega
theorem ringClass_eq_queued {i : Nat} : ringClass d a k i = .queued ↔ d + a ≤ i ∧ i < d + a + k := by
  unfold ringClass; split_ifs <;> simp <;> omega
theorem ringClass_eq_done {i : Nat} : ringClass d a k i = .done ↔ i < d := by
  unfold ringClass; split_ifs <;> simp <;> omega
theorem ringClass_eq_free {i : Nat} : ringClass d a k i = .free ↔ d + a + k ≤ i := by
  unfold ringClass; split_ifs <;> simp <;> omega

theorem Queue.hasActive_iff (q : Queue) : q.hasActive = true ↔ ∃ n : Fin 8, q.slots[n].isActive = true := by
  simp [Queue.hasActive]
theorem Queue.hasActive_eq_false (q : Queue) : q.hasActive = false ↔ ∀ n : Fin 8, q.slots[n].isActive = false := by
  simp [Queue.hasActive]

theorem RingShape.active_eq_zero (h : RingShape q d a k) (hq : q.hasActive = false) : a = 0 := by
  by_contra ha
  have hsize := h.size
  have hi : d < 8 := by omega
  have := (Queue.hasActive_eq_false q).1 hq (q.retire + Fin.ofNat 8 d)
  rw [Bool.eq_false_iff, ne_eq, Slot.isActive_iff] at this
  exact this ((h.cls hi).trans (ringClass_eq_active.2 ⟨le_rfl, by omega⟩))

theorem RingShape.hasActive_of_zero (h : RingShape q d 0 k) : q.hasActive = false := by
  rw [Queue.hasActive_eq_false]
  intro n
  obtain ⟨i, -, -, hc⟩ := h.exists_place n
  rw [Bool.eq_false_iff, ne_eq, Slot.isActive_iff, hc, ringClass_eq_active]
  omega

/-- A slot that is not FREE at the post index means that none is FREE. -/
theorem RingShape.room (h : RingShape q d a k) (hq : q.isFull = false) : d + a + k < 8 := by
  by_contra hfull
  refine absurd hq ?_
  simp only [Bool.not_eq_false, Queue.isFull, List.all_eq_true, Bool.not_eq_true']
  intro n _
  obtain ⟨i, hi, -, hc⟩ := h.exists_place n
  rw [Bool.eq_false_iff, ne_eq, Slot.isFree_iff, hc, ringClass_eq_free]
  omega

theorem RingShape.post_free (h : RingShape q d a k) (room : d + a + k < 8) : q.slots[q.post] = .free := by
  have hc := h.cls room
  rw [Queue.fromRetire_of_place h.post.symm, ringClass_eq_free.2 le_rfl] at hc
  cases hx : q.slots[q.post] <;> rw [hx] at hc <;> first | rfl | cases hc

/-! ### The operations on a ring -/

/-- A ring whose slot at place `j` took another class. -/
theorem RingShape.of_set {q' : Queue} {d' a' k' j : Nat} {x : Slot} (h : RingShape q d a k) (hj : j < 8)
    (slots : ∀ n : Fin 8, q'.slots[n] = if n = q.retire + Fin.ofNat 8 j then x else q.slots[n])
    (retire : q'.retire = q.retire) (size : d' + a' + k' ≤ 8 ∧ a' ≤ 1)
    (cls : ∀ i, i < 8 → ringClass d' a' k' i = if i = j then x.cls else ringClass d a k i)
    (start : q'.start = q.retire + Fin.ofNat 8 (d' + a')) (post : q'.post = q.retire + Fin.ofNat 8 (d' + a' + k')) :
    RingShape q' d' a' k' := by
  refine (ringShape_iff ..).2 ⟨size, fun i hi => ?_, by rw [retire]; exact start, by rw [retire]; exact post⟩
  rw [Queue.fromRetire_of_place (n := q.retire + Fin.ofNat 8 i) (by rw [retire]), slots, cls i hi]
  by_cases e : i = j
  · rw [if_pos (by rw [e]), if_pos e]
  · rw [if_neg fun he => e (Fin8.place_inj hi hj he), if_neg e]
    exact h.cls hi

theorem RingShape.ring_congr {q' : Queue} (h : RingShape q d a k) (e : q'.ring = q.ring) : RingShape q' d a k := by
  have h' := (ringShape_iff ..).1 h
  have hs : q'.slots = q.slots := congrArg (fun x => x.slots) e
  have hr : q'.retire = q.retire := congrArg (fun x => x.retire) e
  have ht : q'.start = q.start := congrArg (fun x => x.start) e
  have hp : q'.post = q.post := congrArg (fun x => x.post) e
  rw [ringShape_iff, hr, ht, hp]
  simpa only [Queue.fromRetire, hs, hr] using h'

theorem RingShape.enqueue (h : RingShape q d a k) (room : d + a + k < 8) (op : SlotOp) :
    RingShape { q.setSlot q.post (.queued op) with post := q.post + 1 } d a (k + 1) := by
  refine h.of_set (j := d + a + k) (x := .queued op) room (fun n => ?_) rfl ⟨by omega, h.oneActive⟩ (fun i _ => ?_) h.start ?_
  · rw [← h.post]; exact Queue.setSlot_slots q q.post n _
  · simp only [ringClass, Slot.cls]; split_ifs <;> first | rfl | omega
  · simp only [h.post, Fin8.place_succ]; rfl

theorem RingShape.finish_active (h : RingShape q d 1 k) {n : Fin 8} (hn : q.slots[n].isActive = true) (op : SlotOp)
    (c : Completion) (x : QueueState) : RingShape { q.setSlot n (.done op c) with state := x } (d + 1) 0 k := by
  obtain ⟨i, hi, rfl, hc⟩ := h.exists_place n
  obtain ⟨h1, h2⟩ := ringClass_eq_active.1 (hc.symm.trans ((Slot.isActive_iff _).1 hn))
  obtain rfl : i = d := by omega
  have hsize := h.size
  refine h.of_set (j := i) (x := .done op c) hi (fun n => Queue.setSlot_slots q _ n _) rfl ⟨by omega, by omega⟩ (fun j _ => ?_)
    h.start h.post
  simp only [ringClass, Slot.cls]; split_ifs <;> first | rfl | omega

/-- The head of a queue (R14): the slot at the start index, with none ACTIVE. -/
theorem Queue.head_eq_some {op : SlotOp} (hq : q.head = some op) :
    q.state = .running ∧ q.hasActive = false ∧ q.slots[q.start] = .queued op := by
  unfold Queue.head at hq
  split at hq
  · next hc =>
    simp only [Bool.and_eq_true, decide_eq_true_eq, Bool.not_eq_true'] at hc
    refine ⟨hc.1, hc.2, ?_⟩
    split at hq
    · next h => cases hq; exact h
    all_goals cases hq
  · cases hq

theorem RingShape.head_place (h : RingShape q d 0 k) {op : SlotOp} (hs : q.slots[q.start] = .queued op) :
    1 ≤ k ∧ d < 8 ∧ q.start = q.retire + Fin.ofNat 8 d := by
  have hsize := h.size
  obtain ⟨i, hi, e, hc⟩ := h.exists_place q.start
  rw [hs] at hc
  obtain ⟨h1, h2⟩ := ringClass_eq_queued.1 (hc.symm.trans rfl)
  exact ⟨by omega, by omega, h.start⟩

theorem RingShape.start_head (h : RingShape q d 0 k) {op : SlotOp} (hs : q.slots[q.start] = .queued op) :
    RingShape { q.setSlot q.start (.active op) with start := q.start + 1 } d 1 (k - 1) := by
  obtain ⟨hk, hd, hstart⟩ := h.head_place hs
  have hsize := h.size
  refine h.of_set (j := d) (x := .active op) hd (fun n => ?_) rfl ⟨by omega, le_rfl⟩ (fun i _ => ?_) ?_ ?_
  · rw [← hstart]; exact Queue.setSlot_slots q q.start n _
  · simp only [ringClass, Slot.cls]; split_ifs <;> first | rfl | omega
  · simp only [hstart, Fin8.place_succ]
  · rw [show d + 1 + (k - 1) = d + 0 + k by omega]; exact h.post

theorem RingShape.deny_head (h : RingShape q d 0 k) {op : SlotOp} (hs : q.slots[q.start] = .queued op) (c : Completion)
    (x : QueueState) :
    RingShape { q.setSlot q.start (.done op c) with start := q.start + 1, state := x } (d + 1) 0 (k - 1) := by
  obtain ⟨hk, hd, hstart⟩ := h.head_place hs
  have hsize := h.size
  refine h.of_set (j := d) (x := .done op c) hd (fun n => ?_) rfl ⟨by omega, by omega⟩ (fun i _ => ?_) ?_ ?_
  · rw [← hstart]; exact Queue.setSlot_slots q q.start n _
  · simp only [ringClass, Slot.cls]; split_ifs <;> first | rfl | omega
  · simp only [hstart, Fin8.place_succ]
  · rw [show d + 1 + 0 + (k - 1) = d + 0 + k by omega]; exact h.post

theorem RingShape.retire_done (h : RingShape q d a k) (hs : q.slots[q.retire].isDone = true) :
    RingShape { q.setSlot q.retire .free with retire := q.retire + 1 } (d - 1) a k := by
  have hsize := h.size
  have hplace : q.retire = q.retire + Fin.ofNat 8 0 := by simp
  have hd : 0 < d := by
    have hc := h.cls (i := 0) (by omega)
    rw [Queue.fromRetire_of_place hplace.symm, (Slot.isDone_iff _).1 hs] at hc
    exact ringClass_eq_done.1 hc.symm
  have next (m : Nat) : q.retire + 1 + Fin.ofNat 8 m = q.retire + Fin.ofNat 8 (m + 1) := by
    rw [← Fin8.place_succ, add_right_comm]
  refine (ringShape_iff ..).2 ⟨⟨by omega, h.oneActive⟩, fun i hi => ?_, ?_, ?_⟩
  · rw [Queue.fromRetire_of_place (n := q.retire + Fin.ofNat 8 (i + 1)) (next i)]
    change ((q.setSlot q.retire .free).slots[q.retire + Fin.ofNat 8 (i + 1)]).cls = _
    rw [Queue.setSlot_slots]
    by_cases e : i = 7
    · subst e
      rw [if_pos (by simp)]
      exact (ringClass_eq_free.2 (by omega)).symm
    · rw [if_neg fun he => by
        have := Fin8.place_inj (r := q.retire) (i := i + 1) (j := 0) (by omega) (by omega) (he.trans hplace); omega]
      refine (h.cls (i := i + 1) (by omega)).trans ?_
      simp only [ringClass]; split_ifs <;> first | rfl | omega
  · rw [next, show d - 1 + a + 1 = d + a by omega]; exact h.start
  · rw [next, show d - 1 + a + k + 1 = d + a + k by omega]; exact h.post

theorem RingShape.flush (h : RingShape q d 0 k) :
    RingShape { q with slots := Vector.ofFn fun n => q.slots[n].flushed, start := q.post } (d + k) 0 0 := by
  have hsize := h.size
  refine (ringShape_iff ..).2 ⟨⟨by omega, by omega⟩, fun i hi => ?_, by simpa using h.post, by simpa using h.post⟩
  have hflushed (x : Slot) : x.flushed.cls = if x.cls = .queued then .done else x.cls := by
    cases x <;> rfl
  have hc := h.cls hi
  simp only [Queue.fromRetire, Fin.getElem_fin, Vector.getElem_ofFn] at hc ⊢
  rw [hflushed, hc]
  simp only [ringClass]; split_ifs <;> simp_all <;> omega

theorem RingShape.reset : RingShape .reset 0 0 0 := by
  refine (ringShape_iff ..).2 ⟨by decide, fun i _ => ?_, rfl, rfl⟩
  simp [Queue.fromRetire, Queue.reset, Slot.cls, ringClass]

end

end Sys2Proof.Machine
end

section
/-! SUPPORT. The rings keep their shape, and the ACTIVE slot is the one a record names (R2, R8, R14). -/

namespace Sys2Proof.Machine

/-! ### The rings under the shared operations -/

/-- A ring of the shape of R2, in a queue state that fits it (R8). -/
structure Queue.Ok (q : Queue) : Prop where
  shape : ∃ d a k, RingShape q d a k
  state : queueStateFits q

theorem Queue.Ok.ring_congr {q q' : Queue} (h : q.Ok) (e : q'.ring = q.ring) : q'.Ok where
  shape := by
    obtain ⟨d, a, k, hs⟩ := h.shape
    exact ⟨d, a, k, hs.ring_congr e⟩
  state := by
    have hs : q'.state = q.state := congrArg (fun x => x.state) e
    have ha : q'.hasActive = q.hasActive := (congrArg Queue.hasActive e :)
    have := h.state
    rw [queueStateFits] at this ⊢
    rwa [hs, ha]

theorem Queue.isActive_of_ring {q q' : Queue} (e : q'.ring = q.ring) (n : Fin 8) :
    q'.slots[n].isActive = q.slots[n].isActive := by
  have hs : q'.slots = q.slots := congrArg (fun x => x.slots) e
  rw [hs]

/-- A change of state that fits the ring. -/
theorem Queue.Ok.setState {q : Queue} (h : q.Ok) {x : QueueState}
    (fits : (x = .stopped ∨ x = .halted → q.hasActive = false) ∧ (x = .stopping → q.hasActive = true)) :
    ({ q with state := x } : Queue).Ok where
  shape := by
    obtain ⟨d, a, k, hs⟩ := h.shape
    exact ⟨d, a, k, ⟨hs.size, hs.oneActive, hs.dones, hs.actives, hs.queueds, hs.frees, hs.start, hs.post⟩⟩
  state := by
    cases x with
    | running => trivial
    | stopping => exact fits.2 rfl
    | stopped => exact fits.1 (.inl rfl)
    | halted => exact fits.1 (.inr rfl)

theorem Queue.Ok.no_active {q : Queue} (h : q.Ok) (hs : q.state = .stopped ∨ q.state = .halted) : q.hasActive = false := by
  have := h.state
  unfold queueStateFits at this
  rcases hs with e | e <;> rwa [e] at this

theorem Queue.ok_reset : Queue.reset.Ok where
  shape := ⟨0, 0, 0, RingShape.reset⟩
  state := RingShape.hasActive_of_zero RingShape.reset

/-- A slot takes a class that is not ACTIVE, in a ring without another ACTIVE slot. -/
theorem Queue.ok_of_shape {q : Queue} {d k : Nat} (h : RingShape q d 0 k) (hs : q.state ≠ .stopping) : q.Ok where
  shape := ⟨d, 0, k, h⟩
  state := by
    have ha := h.hasActive_of_zero
    unfold queueStateFits
    split <;> first | exact ha | trivial

/-- A ring of the right shape in the same queue state and with the same ACTIVE slots. -/
theorem Queue.Ok.of_shape {q q' : Queue} (h : q.Ok) (shape : ∃ d a k, RingShape q' d a k) (state : q'.state = q.state)
    (active : ∀ n : Fin 8, q'.slots[n].isActive = q.slots[n].isActive) : q'.Ok where
  shape := shape
  state := by
    have ha : q'.hasActive = q.hasActive := by simp only [Queue.hasActive, active]
    have hs := h.state
    rw [queueStateFits] at hs ⊢
    rwa [state, ha]

theorem Queue.ok_of_running {q : Queue} (shape : ∃ d a k, RingShape q d a k) (running : q.state = .running) : q.Ok where
  shape := shape
  state := by rw [queueStateFits, running]; trivial

theorem QueueState.afterCompletion_ne_stopping (x : QueueState) (b : Bool) : x.afterCompletion b ≠ .stopping := by
  cases x <;> cases b <;> decide

theorem State.enqueue_queue (s : State) (p q : Port) (op : SlotOp) :
    (s.enqueue p op).queue q
      = if q = p then { (s.queue p).setSlot (s.queue p).post (.queued op) with post := (s.queue p).post + 1 } else s.queue q := by
  have h : (s.enqueue p op).queue q = (s.modQueue p fun x =>
      { x.setSlot (s.queue p).post (.queued op) with post := x.post + 1 }).queue q := by
    unfold State.enqueue; simp only; split <;> rfl
  rw [h, State.modQueue_queue_eq]

theorem State.flushQueue_queue (s : State) (p q : Port) :
    (s.flushQueue p).queue q
      = if q = p then
          { s.queue p with slots := Vector.ofFn fun n => (s.queue p).slots[n].flushed, start := (s.queue p).post }
        else s.queue q := by
  have h : (s.flushQueue p).queue q = (s.modQueue p fun x =>
      { x with slots := Vector.ofFn fun n => x.slots[n].flushed, start := x.post }).queue q := by
    simp only [State.flushQueue, State.countCompletions_frame]; rfl
  rw [h, State.modQueue_queue_eq]

theorem State.denyHead_queue {s : State} {p : Port} {op : SlotOp} (hs : (s.queue p).slots[(s.queue p).start] = .queued op)
    (d : Nat) (q : Port) :
    (s.denyHead p d).queue q
      = if q = p then
          { (s.queue p).setSlot (s.queue p).start
              (.done op { status := .denied, detail := BitVec.ofNat 8 d, suspends := 0 }) with
            start := (s.queue p).start + 1
            state := (s.queue p).state.afterCompletion (s.queue p).haltOnError }
        else s.queue q := by
  have hw : ((s.modQueue p fun q => { q with start := q.start + 1 }).queue p).slots[(s.queue p).start].waiting = some op := by
    rw [State.modQueue_queue]
    change (s.queue p).slots[(s.queue p).start].waiting = some op
    rw [hs]; rfl
  simp only [State.denyHead, State.countDenial_frame]
  rw [State.finishSlot_queue hw, State.modQueue_queue]
  by_cases h : q = p
  · rw [if_pos h, if_pos h]; rfl
  · rw [if_neg h, if_neg h, State.modQueue_queue_eq, if_neg h]

theorem State.startHead_queue (s : State) (p q : Port) (op : SlotOp) :
    (s.startHead p op).queue q
      = if q = p then { (s.queue p).setSlot (s.queue p).start (.active op) with start := (s.queue p).start + 1 }
        else s.queue q := by
  have h : (s.startHead p op).queue q = (s.modQueue p fun x =>
      { x.setSlot (s.queue p).start (.active op) with start := x.start + 1 }).queue q := by
    unfold State.startHead; simp only [State.startOperation_frame]; split <;> simp
  rw [h, State.modQueue_queue_eq]

/-! ### The records and the names -/

/-- The two sequencers hold the same operations, but for their counts, times and marks. -/
structure Sequencer.Alike (q q' : Sequencer) : Prop where
  active : q'.active.map OpRecord.identity = q.active.map OpRecord.identity
  suspended : q'.suspended.map (fun x => x.op.identity) = q.suspended.map fun x => x.op.identity

theorem Sequencer.Alike.refl (q : Sequencer) : q.Alike q := ⟨rfl, rfl⟩
theorem Sequencer.Alike.of_eq {q q' : Sequencer} (h : q' = q) : q.Alike q' := h ▸ .refl q
theorem Sequencer.Alike.symm {q q' : Sequencer} (h : q.Alike q') : q'.Alike q := ⟨h.active.symm, h.suspended.symm⟩
theorem Sequencer.Alike.elapse (d : Nat) (q : Sequencer) : q.Alike (q.elapse d) :=
  ⟨q.elapse_identity d, by simp only [Sequencer.elapse, Option.map_map]; rfl⟩
theorem SeqMove.alike {s : State} {q : Sequencer} {a : Arbiter} (m : SeqMove s q a) : s.seq.Alike q :=
  ⟨m.records.1, by rw [m.records.2]⟩

section
variable {q q' : Sequencer}

theorem Sequencer.Alike.exists_active (h : q.Alike q') {r : OpRecord} (hr : q'.active = some r) :
    ∃ r0, q.active = some r0 ∧ r0.identity = r.identity := by
  have e := h.active
  rw [hr] at e
  exact Option.map_eq_some_iff.1 e.symm

theorem Sequencer.Alike.exists_suspended (h : q.Alike q') {x : Suspended} (hx : q'.suspended = some x) :
    ∃ x0, q.suspended = some x0 ∧ x0.op.identity = x.op.identity := by
  have e := h.suspended
  rw [hx] at e
  exact Option.map_eq_some_iff.1 e.symm

theorem Sequencer.Alike.exists_holds (h : q.Alike q') {r : OpRecord} (hr : q'.holds r) :
    ∃ r0, q.holds r0 ∧ r0.identity = r.identity := by
  rcases hr with hr | ⟨x, hx, rfl⟩
  · obtain ⟨r0, h0, e⟩ := h.exists_active hr
    exact ⟨r0, .inl h0, e⟩
  · obtain ⟨x0, h0, e⟩ := h.exists_suspended hx
    exact ⟨x0.op, .inr ⟨x0, h0, rfl⟩, e⟩

theorem OpRecord.names_congr {r t : OpRecord} (h : r.identity = t.identity) (p : Port) (n : Fin 8) : r.names p n ↔ t.names p n := by
  obtain ⟨hs, ho, -⟩ := OpRecord.of_identity h
  simp only [OpRecord.names, hs, ho]

end

section
variable {s t : State}

theorem QueuesConsistent.ok (h : QueuesConsistent s) (p : Port) : (s.queue p).Ok := ⟨h.rings p, h.states p⟩

/-- The part of the queues' invariant that ties the slots to the records. -/
structure NamesFit (s : State) : Prop where
  named : ∀ p (n : Fin 8), (s.queue p).slots[n].isActive = true ↔ ∃ r, s.seq.holds r ∧ r.names p n
  once : ∀ p n r x, s.seq.active = some r → s.seq.suspended = some x → ¬ (r.names p n ∧ x.op.names p n)
  kinds : ∀ r, s.seq.holds r → (r.kind = .fill ↔ ∃ p, r.source = .fill p)

theorem QueuesConsistent.names (h : QueuesConsistent s) : NamesFit s := ⟨h.named, h.once, h.kinds⟩

theorem NamesFit.consistent (h : NamesFit s) (ok : ∀ p, (s.queue p).Ok) (records : RecordsFit s.seq) : QueuesConsistent s :=
  ⟨fun p => (ok p).shape, fun p => (ok p).state, h.named, h.once, h.kinds, records⟩

/-- The names stay fitting while the same slots are ACTIVE and the same operations are held. -/
theorem NamesFit.of_alike (h : NamesFit s) (slots : ∀ p (n : Fin 8), (t.queue p).slots[n].isActive = (s.queue p).slots[n].isActive)
    (alike : s.seq.Alike t.seq) : NamesFit t where
  named p n := by
    rw [slots, h.named]
    constructor <;> rintro ⟨r, hr, hn⟩
    · obtain ⟨r0, h0, e⟩ := alike.symm.exists_holds hr
      exact ⟨r0, h0, (OpRecord.names_congr e p n).2 hn⟩
    · obtain ⟨r0, h0, e⟩ := alike.exists_holds hr
      exact ⟨r0, h0, (OpRecord.names_congr e p n).2 hn⟩
  once p n r x hr hx := by
    obtain ⟨r0, h0, e⟩ := alike.exists_active hr
    obtain ⟨x0, k0, e'⟩ := alike.exists_suspended hx
    rw [← OpRecord.names_congr e, ← OpRecord.names_congr e']
    exact h.once p n r0 x0 h0 k0
  kinds r hr := by
    obtain ⟨r0, h0, e⟩ := alike.exists_holds hr
    obtain ⟨hs, -, hk, -⟩ := OpRecord.of_identity e
    rw [← hs, ← hk]
    exact h.kinds r0 h0

/-- The active operation leaves, and with it the ACTIVE slot that it names, if it names one. -/
theorem NamesFit.of_removed (h : NamesFit s) {r : OpRecord} (hr : s.seq.active = some r)
    (slots : ∀ p (n : Fin 8), (t.queue p).slots[n].isActive = true ↔ (s.queue p).slots[n].isActive = true ∧ ¬ r.names p n)
    (active : t.seq.active = none) (suspended : t.seq.suspended = s.seq.suspended) : NamesFit t where
  named p n := by
    rw [slots, h.named]
    constructor
    · rintro ⟨⟨r', hr' | hx, hn⟩, hnot⟩
      · obtain rfl := Option.some.inj (hr.symm.trans hr')
        exact absurd hn hnot
      · exact ⟨r', .inr (suspended ▸ hx), hn⟩
    · rintro ⟨r', hr' | ⟨x, hx, rfl⟩, hn⟩
      · rw [active] at hr'; cases hr'
      · rw [suspended] at hx
        exact ⟨⟨x.op, .inr ⟨x, hx, rfl⟩, hn⟩, fun hn' => h.once p n r x hr hx ⟨hn', hn⟩⟩
  once p n r x hr' := by rw [active] at hr'; cases hr'
  kinds r' hr' := by
    rcases hr' with hr' | hx
    · rw [active] at hr'; cases hr'
    · exact h.kinds r' (.inr (suspended ▸ hx))

/-- An operation starts, and with it the slot that it names, if it names one, becomes ACTIVE. -/
theorem NamesFit.of_started (h : NamesFit s) {r : OpRecord} (idle : s.seq.active = none)
    (slots : ∀ p (n : Fin 8), (t.queue p).slots[n].isActive = true ↔ (s.queue p).slots[n].isActive = true ∨ r.names p n)
    (waiting : ∀ p (n : Fin 8), r.names p n → (s.queue p).slots[n].isActive = false)
    (active : t.seq.active = some r) (suspended : t.seq.suspended = s.seq.suspended)
    (kind : r.kind = .fill ↔ ∃ p, r.source = .fill p) : NamesFit t where
  named p n := by
    rw [slots, h.named]
    constructor
    · rintro (⟨r', hr' | hx, hn⟩ | hn)
      · rw [idle] at hr'; cases hr'
      · exact ⟨r', .inr (suspended ▸ hx), hn⟩
      · exact ⟨r, .inl active, hn⟩
    · rintro ⟨r', hr' | hx, hn⟩
      · obtain rfl := Option.some.inj (active.symm.trans hr')
        exact .inr hn
      · exact .inl ⟨r', .inr (suspended ▸ hx), hn⟩
  once p n r' x hr' hx := by
    obtain rfl := Option.some.inj (active.symm.trans hr')
    rintro ⟨hn, hn'⟩
    have := (h.named p n).2 ⟨x.op, .inr ⟨x, suspended ▸ hx, rfl⟩, hn'⟩
    rw [waiting p n hn] at this; cases this
  kinds r' hr' := by
    rcases hr' with hr' | hx
    · obtain rfl := Option.some.inj (active.symm.trans hr')
      exact kind
    · exact h.kinds r' (.inr (suspended ▸ hx))

theorem NamesFit.of_no_records (slots : ∀ p (n : Fin 8), (s.queue p).slots[n].isActive = false) (active : s.seq.active = none)
    (suspended : s.seq.suspended = none) : NamesFit s := by
  have none_held (r : OpRecord) : ¬ s.seq.holds r := by simp [Sequencer.holds, active, suspended]
  exact
    { named := fun p n => by rw [slots]; simp [none_held]
      once := fun p n r x hr => by rw [active] at hr; cases hr
      kinds := fun r hr => absurd hr (none_held r) }

/-- A record passes from one place to the other, where no other stands. -/
theorem NamesFit.of_moved (h : NamesFit s) (slots : ∀ p (n : Fin 8), (t.queue p).slots[n].isActive = (s.queue p).slots[n].isActive)
    (from_old : ∀ r, t.seq.holds r → ∃ r0, s.seq.holds r0 ∧ r0.identity = r.identity)
    (to_new : ∀ r, s.seq.holds r → ∃ r0, t.seq.holds r0 ∧ r0.identity = r.identity)
    (single : t.seq.active = none ∨ t.seq.suspended = none) : NamesFit t where
  named p n := by
    rw [slots, h.named]
    constructor <;> rintro ⟨r, hr, hn⟩
    · obtain ⟨r0, h0, e⟩ := to_new r hr
      exact ⟨r0, h0, (OpRecord.names_congr e p n).2 hn⟩
    · obtain ⟨r0, h0, e⟩ := from_old r hr
      exact ⟨r0, h0, (OpRecord.names_congr e p n).2 hn⟩
  once p n r x hr hx := by rcases single with e | e <;> simp [e] at hr hx
  kinds r hr := by
    obtain ⟨r0, h0, e⟩ := from_old r hr
    obtain ⟨hs, -, hk, -⟩ := OpRecord.of_identity e
    rw [← hs, ← hk]
    exact h.kinds r0 h0

end

/-! ### The end of an operation -/

section
variable {s : State}

/-- The slot that the active record names is ACTIVE, and the only one. -/
theorem QueuesConsistent.active_slot (h : QueuesConsistent s) {r : OpRecord} (hr : s.seq.holds r) {p : Port} {n : Fin 8}
    (hn : r.names p n) :
    ∃ op d k, (s.queue p).slots[n] = .active op ∧ RingShape (s.queue p) d 1 k := by
  have ha := (h.named p n).2 ⟨r, hr, hn⟩
  obtain ⟨d, a, k, hs⟩ := h.rings p
  have h1 : a ≠ 0 := by
    rintro rfl
    rw [(Queue.hasActive_eq_false _).1 hs.hasActive_of_zero n] at ha; cases ha
  obtain rfl : a = 1 := by have := hs.oneActive; omega
  cases hx : (s.queue p).slots[n] <;> rw [hx] at ha <;> try cases ha
  exact ⟨_, d, k, rfl, hs⟩

theorem RingShape.active_unique {q : Queue} {d k : Nat} (h : RingShape q d 1 k) {n m : Fin 8} (hn : q.slots[n].isActive = true)
    (hm : q.slots[m].isActive = true) : n = m := by
  obtain ⟨i, hi, rfl, hc⟩ := h.exists_place n
  obtain ⟨j, hj, rfl, hc'⟩ := h.exists_place m
  obtain ⟨h1, h2⟩ := ringClass_eq_active.1 (hc.symm.trans ((Slot.isActive_iff _).1 hn))
  obtain ⟨h3, h4⟩ := ringClass_eq_active.1 (hc'.symm.trans ((Slot.isActive_iff _).1 hm))
  rw [show i = j by omega]

/-- The rings after the end of an operation: the slot that the record names is DONE, and nothing else changes (R16, R26). -/
theorem QueuesConsistent.complete_queue (h : QueuesConsistent s) {r : OpRecord} (hr : s.seq.active = some r) {w : State}
    (hw : ∀ p, w.queue p = s.queue p) (st : Status) (d : Byte) (p : Port) :
    (∃ n op, r.names p n ∧ (s.queue p).slots[n] = .active op ∧ (w.complete r st d).queue p
        = { (s.queue p).setSlot n (.done op { status := st, detail := d, suspends := r.suspends }) with
            state := (s.queue p).state.afterCompletion (st.isError && (s.queue p).haltOnError) })
      ∨ (∀ n, ¬ r.names p n) ∧ (w.complete r st d).queue p = s.queue p := by
  rw [State.complete_queue]
  cases ho : r.orphan with
  | true =>
    have hnot (n : Fin 8) : ¬ r.names p n := fun hn => by rw [hn.1] at ho; cases ho
    exact .inr ⟨hnot, hw p⟩
  | false =>
    cases hsrc : r.source with
    | fill p' =>
      have hnot (n : Fin 8) : ¬ r.names p n := fun hn => by rw [hn.2] at hsrc; cases hsrc
      exact .inr ⟨hnot, hw p⟩
    | queue p' n =>
      obtain ⟨op, _, _, hslot, -⟩ := h.active_slot (.inl hr) (p := p') (n := n) ⟨ho, hsrc⟩
      have queue (q : Port) : w.removeActive.queue q = s.queue q := hw q
      have hwait : (w.removeActive.queue p').slots[n].waiting = some op := by rw [queue, hslot]; rfl
      simp only [State.finishSlot_queue hwait, queue]
      by_cases hp : p = p'
      · subst hp
        exact .inl ⟨n, op, ⟨ho, hsrc⟩, hslot, by rw [if_pos rfl]⟩
      · have hnot (m : Fin 8) : ¬ r.names p m := fun hm => hp (by have := hm.2.symm.trans hsrc; cases this; rfl)
        exact .inr ⟨hnot, by rw [if_neg hp]⟩

/-- After the end of an operation the rings are of the right shape, and the slot it named is no longer ACTIVE. -/
theorem QueuesConsistent.complete_ok (h : QueuesConsistent s) {r : OpRecord} (hr : s.seq.active = some r) {w : State}
    (hw : ∀ p, w.queue p = s.queue p) (st : Status) (d : Byte) (p : Port) : ((w.complete r st d).queue p).Ok := by
  rcases h.complete_queue hr hw st d p with ⟨n, op, hn, hslot, e⟩ | ⟨-, e⟩ <;> rw [e]
  · obtain ⟨_, d', k, hslot', hs⟩ := h.active_slot (.inl hr) hn
    exact Queue.ok_of_shape (hs.finish_active (by rw [hslot]; rfl) op _ _) (QueueState.afterCompletion_ne_stopping _ _)
  · exact h.ok p

theorem QueuesConsistent.complete_active (h : QueuesConsistent s) {r : OpRecord} (hr : s.seq.active = some r) {w : State}
    (hw : ∀ p, w.queue p = s.queue p) (st : Status) (d : Byte) (p : Port) (m : Fin 8) :
    ((w.complete r st d).queue p).slots[m].isActive = true ↔ (s.queue p).slots[m].isActive = true ∧ ¬ r.names p m := by
  rcases h.complete_queue hr hw st d p with ⟨n, op, hn, hslot, e⟩ | ⟨hnot, e⟩ <;> rw [e]
  · change ((s.queue p).setSlot n _).slots[m].isActive = true ↔ _
    rw [Queue.setSlot_slots]
    by_cases hm : m = n
    · subst hm; rw [if_pos rfl]; simp [Slot.isActive, hn]
    · rw [if_neg hm]
      have hno : ¬ r.names p m := fun hm' => hm (by have := hm'.2.symm.trans hn.2; cases this; rfl)
      simp [hno]
  · simp [hnot]

end

end Sys2Proof.Machine
end

section
/-! SUPPORT. The queues' invariant under the events and the grants. -/

namespace Sys2Proof.Machine

section
variable {s t : State}

/-- Nothing of the rings changes, and the same operations are held. -/
theorem QueuesConsistent.of_rings (h : QueuesConsistent s) (rings : ∀ p, (t.queue p).ring = (s.queue p).ring)
    (alike : s.seq.Alike t.seq) (records : RecordsFit t.seq) : QueuesConsistent t :=
  (h.names.of_alike (fun p n => Queue.isActive_of_ring (rings p) n) alike).consistent
    (fun p => (h.ok p).ring_congr (rings p)) records

theorem QueuesConsistent.of_frame (h : QueuesConsistent s) (queues : ∀ p, t.queue p = s.queue p) (seq : t.seq = s.seq) :
    QueuesConsistent t :=
  h.of_rings (fun p => by rw [queues]) (.of_eq seq) (seq ▸ h.records)

/-- One ring changes, but not which slots are ACTIVE. -/
theorem QueuesConsistent.of_queue (h : QueuesConsistent s) (seq : t.seq = s.seq) {p : Port} {q : Queue}
    (queues : ∀ r, t.queue r = if r = p then q else s.queue r) (ok : q.Ok)
    (active : ∀ n : Fin 8, q.slots[n].isActive = (s.queue p).slots[n].isActive) : QueuesConsistent t := by
  refine (h.names.of_alike (fun r n => ?_) (.of_eq seq)).consistent (fun r => ?_) (seq ▸ h.records)
  · rw [queues]
    split
    · next e => subst e; exact active n
    · rfl
  · rw [queues]
    split
    · exact ok
    · exact h.ok r

theorem Queue.setSlot_isActive {q : Queue} {n : Fin 8} {x : Slot} (h : x.isActive = q.slots[n].isActive) (m : Fin 8) :
    (q.setSlot n x).slots[m].isActive = q.slots[m].isActive := by
  rw [Queue.setSlot_slots]
  split
  · next e => rw [h, e]
  · rfl

theorem QueuesConsistent.setQueueState (h : QueuesConsistent s) {p : Port} {x : QueueState}
    (fits : (x = .stopped ∨ x = .halted → (s.queue p).hasActive = false) ∧ (x = .stopping → (s.queue p).hasActive = true)) :
    QueuesConsistent (s.setQueueState p x) :=
  h.of_queue rfl (fun r => s.modQueue_queue_eq p r _) ((h.ok p).setState fits) fun _ => rfl

/-- The rings after the end of an operation, as of its completion (R15 to R17, R50). -/
theorem State.operationEnds_queue (s : State) (r : OpRecord) (st : Status) (d : Byte) (q : SeqState) (g k : Nat) (b : Bool)
    (p : Port) :
    (s.operationEnds r st d q g k b).queue p
      = ((s.withSeq { s.seq with line := .idle, gap := g, handshakeReads := k }
          { s.arbiter with suspendRequest := b }).complete r st d).queue p := rfl

theorem QueuesConsistent.operationEnds (h : QueuesConsistent s) {r : OpRecord} (hr : s.seq.active = some r) (st : Status)
    (d : Byte) (q : SeqState) (g k : Nat) (b : Bool) (records : RecordsFit (s.operationEnds r st d q g k b).seq) :
    QueuesConsistent (s.operationEnds r st d q g k b) := by
  refine NamesFit.consistent (h.names.of_removed hr (fun p n => ?_) ?_ ?_) (fun p => ?_) records
  · rw [State.operationEnds_queue]; refine h.complete_active hr ?_ st d p n; exact fun _ => rfl
  · rw [State.operationEnds_seq]
  · rw [State.operationEnds_seq]
  · rw [State.operationEnds_queue]; refine h.complete_ok hr ?_ st d p; exact fun _ => rfl

theorem State.fillEnds_queue (s : State) (r : OpRecord) (data : List Byte) (g : Nat) (p : Port) :
    (s.fillEnds r data g).queue p = s.queue p := by
  unfold State.fillEnds State.deliverFill State.setSeqState; split <;> simp [State.removeActive]

theorem State.profileTaken_queue (s : State) (prof : Profile) (p : Port) : (s.profileTaken prof).queue p = s.queue p := by
  simp only [State.profileTaken, State.closeByCommit_queue]; rfl

theorem OpRecord.names_orphanFor (p q : Port) (n : Fin 8) (r : OpRecord) : (r.orphanFor p).names q n ↔ q ≠ p ∧ r.names q n := by
  unfold OpRecord.orphanFor OpRecord.names
  split
  · next h =>
    simp only [Bool.true_eq_false, false_and, false_iff, not_and, ne_eq]
    rintro hq - hs
    rw [hs] at h
    exact hq h
  · next h =>
    constructor
    · rintro ⟨ho, hs⟩
      refine ⟨?_, ho, hs⟩
      rintro rfl
      rw [hs] at h
      exact h rfl
    · exact And.right

theorem Sequencer.orphanFor_holds (p : Port) (q : Sequencer) (r : OpRecord) :
    (q.orphanFor p).holds r ↔ ∃ r0, q.holds r0 ∧ r0.orphanFor p = r := by
  simp only [Sequencer.holds, Sequencer.orphanFor, Option.map_eq_some_iff]
  constructor
  · rintro (⟨r0, h0, e⟩ | ⟨_, ⟨x, hx, rfl⟩, e⟩)
    · exact ⟨r0, .inl h0, e⟩
    · exact ⟨x.op, .inr ⟨x, hx, rfl⟩, e⟩
  · rintro ⟨r0, h0 | ⟨x, hx, rfl⟩, e⟩
    · exact .inl ⟨r0, h0, e⟩
    · exact .inr ⟨_, ⟨x, hx, rfl⟩, e⟩

/-- The queues after a port reset: the port's ring is empty and its operations name no slot any more (R25, R51). -/
theorem QueuesConsistent.portReset (h : QueuesConsistent s) (p : Port) : QueuesConsistent (s.portReset p) := by
  refine NamesFit.consistent ⟨fun q n => ?_, fun q n r x hr hx => ?_, fun r hr => ?_⟩ (fun q => ?_)
    (by rw [State.portReset_seq]; exact h.records.orphanFor p)
  · rw [State.portReset_queue, State.portReset_seq]
    simp only [Sequencer.orphanFor_holds]
    by_cases hq : q = p
    · rw [if_pos hq]
      have : (Queue.reset.slots[n]).isActive = false := by simp [Queue.reset, Slot.isActive]
      simp only [this, Bool.false_eq_true, false_iff]
      rintro ⟨_, ⟨r0, -, rfl⟩, hn⟩
      exact ((OpRecord.names_orphanFor ..).1 hn).1 hq
    · rw [if_neg hq, h.named]
      constructor
      · rintro ⟨r, hr, hn⟩
        exact ⟨_, ⟨r, hr, rfl⟩, (OpRecord.names_orphanFor ..).2 ⟨hq, hn⟩⟩
      · rintro ⟨_, ⟨r0, h0, rfl⟩, hn⟩
        exact ⟨r0, h0, ((OpRecord.names_orphanFor ..).1 hn).2⟩
  · rw [State.portReset_seq] at hr hx
    obtain ⟨r0, h0, rfl⟩ := Option.map_eq_some_iff.1 hr
    obtain ⟨x0, k0, rfl⟩ := Option.map_eq_some_iff.1 hx
    rintro ⟨hn, hn'⟩
    exact h.once q n r0 x0 h0 k0 ⟨((OpRecord.names_orphanFor ..).1 hn).2, ((OpRecord.names_orphanFor p q n x0.op).1 hn').2⟩
  · rw [State.portReset_seq, Sequencer.orphanFor_holds] at hr
    obtain ⟨r0, h0, rfl⟩ := hr
    obtain ⟨hs, hk, -⟩ := r0.orphanFor_frame p
    rw [hs, hk]
    exact h.kinds r0 h0
  · rw [State.portReset_queue]
    split
    · exact Queue.ok_reset
    · exact h.ok q

theorem QueuesConsistent.silent (h : QueuesConsistent s) (e : Silent s t) : QueuesConsistent t := by
  have records := h.records.silent e
  cases e with
  | same => exact h
  | claimed | released | holdAsked | holdGiven | holdRenewed => exact h.of_frame (fun _ => rfl) rfl
  | closed | stalled | stallEnded => exact h.of_frame (fun _ => by simp [State.beginStall]) rfl
  | @retired p done =>
    have active (n : Fin 8) : (({ (s.queue p).setSlot (s.queue p).retire .free with
        retire := (s.queue p).retire + 1 } : Queue).slots[n]).isActive = (s.queue p).slots[n].isActive := by
      refine Queue.setSlot_isActive ?_ n
      cases hx : (s.queue p).slots[(s.queue p).retire] <;> rw [hx] at done <;> try cases done
      rfl
    obtain ⟨d, a, k, hs⟩ := h.rings p
    exact h.of_queue rfl (fun r => s.modQueue_queue_eq p r _) ((h.ok p).of_shape ⟨_, _, _, hs.retire_done done⟩ rfl active) active
  | @stopped p x table =>
    refine h.setQueueState ?_
    rcases table with ⟨-, rfl⟩ | ⟨hs, rfl⟩
    · cases ha : (s.queue p).hasActive <;> simp
    · simp [(h.ok p).no_active (.inr hs)]
  | @flushed p state =>
    have hno := (h.ok p).no_active state
    obtain ⟨d, a, k, hs⟩ := h.rings p
    obtain rfl := hs.active_eq_zero hno
    refine h.of_queue (s.flushQueue_seq p) (s.flushQueue_queue p) (Queue.ok_of_shape hs.flush ?_) fun n => ?_
    · rcases state with e | e <;> simp [e]
    · simp only [Fin.getElem_fin, Vector.getElem_ofFn]
      cases (s.queue p).slots[n.val] <;> rfl
  | sequencer move => exact h.of_rings (fun _ => rfl) move.alike records
  | timedOut active => exact h.operationEnds active _ _ _ _ _ _ records
  | committed =>
    refine h.of_rings (fun p => ?_) ?_ records
    · change ((s.profileTaken _).queue p).ring = _; rw [State.profileTaken_queue]
    · rw [State.callLine_seq, State.setSeqState_seq, State.profileTaken_seq]; exact ⟨rfl, rfl⟩
  | poweredOn =>
    refine (NamesFit.of_no_records (fun p n => ?_) rfl rfl).consistent (fun p => by cases p <;> exact Queue.ok_reset) records
    have : (Queue.reset.slots[n]).isActive = false := by simp [Queue.reset, Slot.isActive]
    cases p <;> exact this

theorem QueuesConsistent.bringing (h : QueuesConsistent s) (e : Bringing s t) : QueuesConsistent t := by
  have records := h.records.bringing e
  cases e with
  | @enqueued p op room =>
    obtain ⟨d, a, k, hs⟩ := h.rings p
    have hroom := hs.room room
    have active (n : Fin 8) : (({ (s.queue p).setSlot (s.queue p).post (.queued op) with
        post := (s.queue p).post + 1 } : Queue).slots[n]).isActive = (s.queue p).slots[n].isActive := by
      refine Queue.setSlot_isActive ?_ n
      rw [hs.post_free hroom]; rfl
    exact h.of_queue (s.enqueue_seq p op) (fun r => s.enqueue_queue p r op)
      ((h.ok p).of_shape ⟨_, _, _, hs.enqueue hroom op⟩ rfl active) active
  | started state => exact h.setQueueState (by simp)
  | opened | byteTaken | holdEnded => exact h.of_frame (fun _ => by simp) rfl
  | portReset => exact h.portReset _
  | sequencer move => exact h.of_rings (fun _ => rfl) move.alike records
  | operationEnded active => exact h.operationEnds active _ _ _ _ _ _ records
  | @fillEnded r data g active kind =>
    obtain ⟨p, hp⟩ := (h.kinds r (.inl active)).1 kind
    refine NamesFit.consistent (h.names.of_removed active (fun q n => ?_) ?_ ?_) (fun q => ?_) records
    · have hno : ¬ r.names q n := fun hn => by rw [hn.2] at hp; cases hp
      simp [State.fillEnds_queue, hno]
    · rw [State.fillEnds_seq]
    · rw [State.fillEnds_seq]
    · rw [State.fillEnds_queue]; exact h.ok q
  | @operationParked r g n k active state =>
    have hno := h.records.alone (by rw [state]; decide) (by rw [state]; decide)
    refine NamesFit.consistent (h.names.of_moved (fun _ _ => rfl) ?_ ?_ (.inl rfl)) (fun p => h.ok p) records
    · rintro r' (hr | ⟨x, hx, rfl⟩)
      · cases hr
      · obtain rfl := Option.some.inj hx
        exact ⟨r, .inl active, rfl⟩
    · rintro r' (hr | ⟨x, hx, rfl⟩)
      · obtain rfl := Option.some.inj (active.symm.trans hr)
        exact ⟨_, .inr ⟨_, rfl, rfl⟩, rfl⟩
      · rw [hno] at hx; cases hx

theorem QueuesConsistent.idle_active (h : QueuesConsistent s) (idle : s.seq.state = .idle) : s.seq.active = none := by
  have := h.records.active
  rwa [idle] at this

theorem QueuesConsistent.granted (h : QueuesConsistent s) (idle : s.seq.state = .idle) (g : Granted s t) : QueuesConsistent t := by
  have records := h.records.granted g
  cases g with
  | fillDenied => exact h.of_frame (fun _ => by simp) (by simp)
  | @fillStarted p =>
    refine NamesFit.consistent (h.names.of_started (r := s.fillRecord p) (h.idle_active idle) (fun q n => ?_) ?_ ?_ ?_ ?_)
      (fun q => ?_) records
    · have hno : ¬ (s.fillRecord p).names q n := fun hn => by cases hn.2
      simp [State.startFill, hno]
    · rintro q n ⟨-, hn⟩; cases hn
    · rw [State.startFill_seq]
    · rw [State.startFill_seq]
    · exact ⟨fun _ => ⟨p, rfl⟩, fun _ => rfl⟩
    · have : (s.startFill p).queue q = s.queue q := by simp [State.startFill]
      rw [this]; exact h.ok q
  | @headDenied p op d head =>
    obtain ⟨-, hno, hs⟩ := Queue.head_eq_some head
    obtain ⟨d', a, k, hr⟩ := h.rings p
    obtain rfl := hr.active_eq_zero hno
    refine h.of_queue (by simp) (State.denyHead_queue hs d)
      (Queue.ok_of_shape (hr.deny_head hs _ _) (QueueState.afterCompletion_ne_stopping _ _)) fun n => ?_
    exact Queue.setSlot_isActive (by rw [hs]; rfl) n
  | @headStarted p op head =>
    obtain ⟨hrun, hno, hs⟩ := Queue.head_eq_some head
    obtain ⟨d', a, k, hr⟩ := h.rings p
    obtain rfl := hr.active_eq_zero hno
    have slot (n : Fin 8) : (s.queue p).slots[n].isActive = false := (Queue.hasActive_eq_false _).1 hno n
    have names (q : Port) (n : Fin 8) : (s.headRecord p op).names q n ↔ q = p ∧ n = (s.queue p).start := by
      simp only [OpRecord.names, State.headRecord, true_and, Source.queue.injEq, eq_comm]
    refine NamesFit.consistent (h.names.of_started (r := s.headRecord p op) (h.idle_active idle) (fun q n => ?_) ?_ ?_ ?_ ?_)
      (fun q => ?_) records
    · rw [State.startHead_queue, names]
      by_cases hq : q = p
      · subst hq
        rw [if_pos rfl, slot]
        change ((s.queue q).setSlot (s.queue q).start (.active op)).slots[n].isActive = true ↔ _
        rw [Queue.setSlot_slots]
        by_cases hn : n = (s.queue q).start
        · rw [if_pos hn]; simp [Slot.isActive, hn]
        · rw [if_neg hn, slot]; simp [hn]
      · rw [if_neg hq]; simp [hq]
    · rintro q n hn
      obtain ⟨rfl, rfl⟩ := (names q n).1 hn
      exact slot _
    · rw [State.startHead_seq]
    · rw [State.startHead_seq]
    · constructor
      · intro e; cases e
      · rintro ⟨_, e⟩; cases e
    · rw [State.startHead_queue]
      split
      · exact Queue.ok_of_running ⟨_, _, _, hr.start_head hs⟩ hrun
      · exact h.ok q
  | @resumed x record =>
    have hno := h.idle_active idle
    refine NamesFit.consistent (h.names.of_moved (fun _ _ => rfl) ?_ ?_ (.inr rfl)) (fun p => h.ok p) records
    · rintro r' (hr | ⟨y, hy, rfl⟩)
      · obtain rfl := Option.some.inj hr
        exact ⟨x.op, .inr ⟨x, record, rfl⟩, rfl⟩
      · cases hy
    · rintro r' (hr | ⟨y, hy, rfl⟩)
      · rw [hno] at hr; cases hr
      · obtain rfl := Option.some.inj (record.symm.trans hy)
        exact ⟨x.op, .inl rfl, rfl⟩

end

theorem QueuesConsistent.kept : Kept QueuesConsistent where
  core {s t} e h := by
    refine h.of_rings (fun p => ?_) (.of_eq (State.seq_of_core e)) (State.seq_of_core e ▸ h.records)
    have := congrArg (fun u => u.queue p) e
    simpa using this
  time d h := h.of_rings (fun p => by rw [State.elapse_queue]) (.elapse d _) (h.records.elapse d)
  silent h e := h.silent e
  bringing h e := h.bringing e
  granted h hi g := h.granted hi g

/-- Settles O55: the shape of the rings by the class at each place, and the names by the records that stay, leave and start. -/
theorem queuesStayConsistent : Obligations.QueuesStayConsistent := by
  unfold Obligations.QueuesStayConsistent
  exact fun s t h hstep => QueuesConsistent.kept.step h hstep

end Sys2Proof.Machine
end

section
/-! SUPPORT. A buffer is LENT exactly to the slot or the orphan that uses it (R83, R88 to R90, R95). -/

namespace Sys2Proof.Machine

section
variable {s t : State}

/-! ### The invariant over the changes of slots, holders and records -/

theorem Slot.waiting_active (op : SlotOp) : (Slot.active op).waiting = some op := rfl
theorem Slot.waiting_queued (op : SlotOp) : (Slot.queued op).waiting = some op := rfl

/-- A buffer named by a waiting slot is lent to that slot only. -/
theorem BuffersConsistent.lent_iff (h : BuffersConsistent s) {p : Port} {n : Fin 8} {op : SlotOp}
    (hw : (s.queue p).slots[n].waiting = some op) (b : Fin 16) : op.buffer = some b ↔ s.holder b = .lentSlot p n := by
  refine ⟨h.lent p n op b hw, fun hb => ?_⟩
  obtain ⟨op', hw', hb'⟩ := h.named p n b hb
  obtain rfl := Option.some.inj (hw.symm.trans hw')
  exact hb'

/-- The slots in `F` finish, their buffers pass from them, and each record left is one of before that names none of them. -/
theorem BuffersConsistent.of_finished (h : BuffersConsistent s) (F : Port → Fin 8 → Prop)
    (waiting : ∀ p (n : Fin 8) op, (t.queue p).slots[n].waiting = some op ↔ (s.queue p).slots[n].waiting = some op ∧ ¬ F p n)
    (lent : ∀ b p n, t.holder b = .lentSlot p n ↔ s.holder b = .lentSlot p n ∧ ¬ F p n)
    (orphaned : ∀ b, t.holder b = .lentOrphan ↔ ∃ r, t.seq.holds r ∧ r.orphan = true ∧ r.buffer = some b)
    (records : ∀ r, t.seq.holds r → ∃ r0, s.seq.holds r0 ∧ r0.identity = r.identity ∧ ∀ p n, r0.names p n → ¬ F p n)
    (apart : ∀ r x b, t.seq.active = some r → t.seq.suspended = some x → r.buffer = some b → x.op.buffer ≠ some b) :
    BuffersConsistent t where
  lent p n op b hw hb := by
    obtain ⟨hw, hF⟩ := (waiting p n op).1 hw
    exact (lent b p n).2 ⟨h.lent p n op b hw hb, hF⟩
  named p n b hb := by
    obtain ⟨hb, hF⟩ := (lent b p n).1 hb
    obtain ⟨op, hw, hop⟩ := h.named p n b hb
    exact ⟨op, (waiting p n op).2 ⟨hw, hF⟩, hop⟩
  orphaned := orphaned
  record p n r hr hn := by
    obtain ⟨r0, h0, e, hF⟩ := records r hr
    have hn0 := (OpRecord.names_congr e p n).2 hn
    obtain ⟨op, hw, hb⟩ := h.record p n r0 h0 hn0
    obtain ⟨-, -, -, -, hbuf, -⟩ := OpRecord.of_identity e
    exact ⟨op, (waiting p n op).2 ⟨hw, hF p n hn0⟩, hbuf ▸ hb⟩
  fills p r hr hs := by
    obtain ⟨r0, h0, e, -⟩ := records r hr
    obtain ⟨hsrc, -, -, -, hbuf, -⟩ := OpRecord.of_identity e
    rw [← hbuf]
    exact h.fills p r0 h0 (hsrc.trans hs)
  apart := apart

/-- No slot finishes or is posted, and the same operations are held, perhaps in the other record. -/
theorem BuffersConsistent.of_same (h : BuffersConsistent s)
    (waiting : ∀ p (n : Fin 8), (t.queue p).slots[n].waiting = (s.queue p).slots[n].waiting)
    (lent : ∀ b p n, t.holder b = .lentSlot p n ↔ s.holder b = .lentSlot p n)
    (orphan : ∀ b, t.holder b = .lentOrphan ↔ s.holder b = .lentOrphan)
    (from_old : ∀ r, t.seq.holds r → ∃ r0, s.seq.holds r0 ∧ r0.identity = r.identity)
    (to_new : ∀ r, s.seq.holds r → ∃ r0, t.seq.holds r0 ∧ r0.identity = r.identity)
    (apart : ∀ r x b, t.seq.active = some r → t.seq.suspended = some x → r.buffer = some b → x.op.buffer ≠ some b) :
    BuffersConsistent t := by
  refine h.of_finished (fun _ _ => False) (fun p n op => by rw [waiting]; simp) (fun b p n => by rw [lent]; simp) (fun b => ?_)
    (fun r hr => by obtain ⟨r0, h0, e⟩ := from_old r hr; exact ⟨r0, h0, e, by simp⟩) apart
  rw [orphan, h.orphaned]
  constructor <;> rintro ⟨r, hr, ho, hb⟩
  · obtain ⟨r0, h0, e⟩ := to_new r hr
    obtain ⟨-, ho', -, -, hb', -⟩ := OpRecord.of_identity e
    exact ⟨r0, h0, ho'.trans ho, hb'.trans hb⟩
  · obtain ⟨r0, h0, e⟩ := from_old r hr
    obtain ⟨-, ho', -, -, hb', -⟩ := OpRecord.of_identity e
    exact ⟨r0, h0, ho'.trans ho, hb'.trans hb⟩

theorem Sequencer.Alike.apart (alike : s.seq.Alike t.seq) (h : BuffersConsistent s) :
    ∀ r x b, t.seq.active = some r → t.seq.suspended = some x → r.buffer = some b → x.op.buffer ≠ some b := by
  intro r x b hr hx hb
  obtain ⟨r0, h0, e⟩ := alike.exists_active hr
  obtain ⟨x0, k0, e'⟩ := alike.exists_suspended hx
  obtain ⟨-, -, -, -, hb0, -⟩ := OpRecord.of_identity e
  obtain ⟨-, -, -, -, hb1, -⟩ := OpRecord.of_identity e'
  rw [← hb1]
  exact h.apart r0 x0 b h0 k0 (hb0.trans hb)

theorem BuffersConsistent.of_alike (h : BuffersConsistent s)
    (waiting : ∀ p (n : Fin 8), (t.queue p).slots[n].waiting = (s.queue p).slots[n].waiting)
    (lent : ∀ b p n, t.holder b = .lentSlot p n ↔ s.holder b = .lentSlot p n)
    (orphan : ∀ b, t.holder b = .lentOrphan ↔ s.holder b = .lentOrphan) (alike : s.seq.Alike t.seq) : BuffersConsistent t :=
  h.of_same waiting lent orphan (fun _ => alike.exists_holds) (fun _ => alike.symm.exists_holds) (alike.apart h)

/-- Neither slots nor holders change, and the same operations are held. -/
theorem BuffersConsistent.of_frame (h : BuffersConsistent s) (queues : ∀ p, (t.queue p).slots = (s.queue p).slots)
    (holders : ∀ b, t.holder b = s.holder b) (alike : s.seq.Alike t.seq) : BuffersConsistent t :=
  h.of_alike (fun p n => by rw [queues]) (fun b p n => by rw [holders]) (fun b => by rw [holders]) alike

/-- One buffer passes between a port and FREE. -/
theorem BuffersConsistent.setHolder_not_lent (h : BuffersConsistent s) {b : Fin 16} {x : Holder}
    (new : ∀ p n, x ≠ .lentSlot p n ∧ x ≠ .lentOrphan) (old : ∀ p n, s.holder b ≠ .lentSlot p n ∧ s.holder b ≠ .lentOrphan) :
    BuffersConsistent (s.setHolder b x) := by
  refine h.of_alike (fun _ _ => rfl) (fun c p n => ?_) (fun c => ?_) (.refl _)
  · rw [State.setHolder_holder_eq]
    split
    · next e => subst e; simp [(new p n).1, (old p n).1]
    · rfl
  · rw [State.setHolder_holder_eq]
    split
    · next e => subst e; simp [(new .A 0).2, (old .A 0).2]
    · rfl

/-! ### Slots that finish -/

/-- A slot finishes: its buffer is its port's again. -/
theorem BuffersConsistent.lent_after_finish (h : BuffersConsistent s) {p : Port} {n : Fin 8} {op : SlotOp}
    (hw : (s.queue p).slots[n].waiting = some op) (b : Fin 16) (q : Port) (m : Fin 8) :
    (if op.buffer = some b then Holder.port p else s.holder b) = .lentSlot q m
      ↔ s.holder b = .lentSlot q m ∧ ¬ (q = p ∧ m = n) := by
  split
  · next e =>
    have hb := (h.lent_iff hw b).1 e
    rw [hb]
    constructor
    · intro hx; cases hx
    · rintro ⟨hx, hno⟩; cases hx; exact absurd ⟨rfl, rfl⟩ hno
  · next e =>
    refine ⟨fun hb => ⟨hb, ?_⟩, And.left⟩
    rintro ⟨rfl, rfl⟩
    exact e ((h.lent_iff hw b).2 hb)

theorem BuffersConsistent.orphan_after_finish (h : BuffersConsistent s) {p : Port} {n : Fin 8} {op : SlotOp}
    (hw : (s.queue p).slots[n].waiting = some op) (b : Fin 16) :
    (if op.buffer = some b then Holder.port p else s.holder b) = .lentOrphan ↔ s.holder b = .lentOrphan := by
  split
  · next e => simp [(h.lent_iff hw b).1 e]
  · rfl

/-- Setting a slot to DONE ends its waiting, and no other's. -/
theorem Queue.setSlot_done_waiting (q : Queue) (n m : Fin 8) (op o : SlotOp) (c : Completion) :
    (q.setSlot n (.done op c)).slots[m].waiting = some o ↔ q.slots[m].waiting = some o ∧ m ≠ n := by
  rw [Queue.setSlot_slots]
  split
  · next e => simp [Slot.waiting, e]
  · next e => simp [e]

/-! ### The end of an operation -/

/-- The active operation leaves the flash: the slot it names finishes, or the buffer of an orphan is lent no more. -/
theorem BuffersConsistent.of_removed (hq : QueuesConsistent s) (h : BuffersConsistent s) {r : OpRecord}
    (hr : s.seq.active = some r)
    (waiting : ∀ p (n : Fin 8) op,
      (t.queue p).slots[n].waiting = some op ↔ (s.queue p).slots[n].waiting = some op ∧ ¬ r.names p n)
    (lent : ∀ b p n, t.holder b = .lentSlot p n ↔ s.holder b = .lentSlot p n ∧ ¬ r.names p n)
    (orphan : ∀ b, t.holder b = .lentOrphan ↔ s.holder b = .lentOrphan ∧ ¬ (r.orphan = true ∧ r.buffer = some b))
    (active : t.seq.active = none) (suspended : t.seq.suspended = s.seq.suspended) : BuffersConsistent t := by
  have held {r' : OpRecord} (hr' : t.seq.holds r') : ∃ x, s.seq.suspended = some x ∧ x.op = r' := by
    rcases hr' with e | ⟨x, hx, e⟩
    · rw [active] at e; cases e
    · exact ⟨x, suspended ▸ hx, e⟩
  refine h.of_finished (fun p n => r.names p n) waiting lent (fun b => ?_) (fun r' hr' => ?_)
    fun r' x b hr' => by rw [active] at hr'; cases hr'
  · rw [orphan, h.orphaned]
    constructor
    · rintro ⟨⟨r', hr' | ⟨x, hx, rfl⟩, ho, hb⟩, hno⟩
      · obtain rfl := Option.some.inj (hr.symm.trans hr')
        exact absurd ⟨ho, hb⟩ hno
      · exact ⟨x.op, .inr ⟨x, suspended ▸ hx, rfl⟩, ho, hb⟩
    · rintro ⟨r', hr', ho, hb⟩
      obtain ⟨x, hx, rfl⟩ := held hr'
      exact ⟨⟨x.op, .inr ⟨x, hx, rfl⟩, ho, hb⟩, fun hno => h.apart r x b hr hx hno.2 hb⟩
  · obtain ⟨x, hx, rfl⟩ := held hr'
    exact ⟨x.op, .inr ⟨x, hx, rfl⟩, rfl, fun p n hn hn' => hq.once p n r x hr hx ⟨hn', hn⟩⟩

/-- The holders after the end of an operation: the slot's buffer is the port's again, an orphan's is FREE (R89, R90). -/
theorem BuffersConsistent.complete_holder (hq : QueuesConsistent s) (h : BuffersConsistent s) {r : OpRecord}
    (hr : s.seq.active = some r) {w : State} (queues : ∀ p, w.queue p = s.queue p) (holders : ∀ b, w.holder b = s.holder b)
    (st : Status) (d : Byte) (b : Fin 16) :
    (∀ p n, (w.complete r st d).holder b = .lentSlot p n ↔ s.holder b = .lentSlot p n ∧ ¬ r.names p n)
      ∧ ((w.complete r st d).holder b = .lentOrphan ↔ s.holder b = .lentOrphan ∧ ¬ (r.orphan = true ∧ r.buffer = some b)) := by
  rw [State.complete_holder]
  cases ho : r.orphan with
  | true =>
    have hnot (p : Port) (n : Fin 8) : ¬ r.names p n := fun hn => by rw [hn.1] at ho; cases ho
    simp only [holders, hnot, not_false_eq_true, and_true, true_and]
    split
    · next e =>
      have hb := (h.orphaned b).2 ⟨r, .inl hr, ho, e⟩
      simp [hb, e]
    · next e => simp [e]
  | false =>
    cases hsrc : r.source with
    | fill p' =>
      have hnot (p : Port) (n : Fin 8) : ¬ r.names p n := fun hn => by rw [hn.2] at hsrc; cases hsrc
      simp [holders, hnot]
    | queue p' m =>
      obtain ⟨op, _, _, hslot, -⟩ := hq.active_slot (.inl hr) (p := p') (n := m) ⟨ho, hsrc⟩
      have hw : (s.queue p').slots[m].waiting = some op := by rw [hslot]; rfl
      have queue (q : Port) : w.removeActive.queue q = s.queue q := queues q
      have hw' : (w.removeActive.queue p').slots[m].waiting = some op := by rw [queue]; exact hw
      have holder : w.removeActive.holder b = s.holder b := holders b
      have names (p : Port) (n : Fin 8) : r.names p n ↔ p = p' ∧ n = m := by
        simp only [OpRecord.names, ho, hsrc, true_and, Source.queue.injEq, eq_comm]
      simp only [State.finishSlot_holder hw', holder, names]
      refine ⟨h.lent_after_finish hw b, ?_⟩
      rw [h.orphan_after_finish hw b]
      simp

theorem BuffersConsistent.operationEnds (hq : QueuesConsistent s) (h : BuffersConsistent s) {r : OpRecord}
    (hr : s.seq.active = some r) (st : Status) (d : Byte) (q : SeqState) (g k : Nat) (b : Bool) :
    BuffersConsistent (s.operationEnds r st d q g k b) := by
  have holder := h.complete_holder hq hr
    (w := s.withSeq { s.seq with line := .idle, gap := g, handshakeReads := k } { s.arbiter with suspendRequest := b })
    (fun _ => rfl) (fun _ => rfl) st d
  refine h.of_removed hq hr (fun p n op => ?_) (fun b p n => (holder b).1 p n) (fun b => (holder b).2)
    (by rw [State.operationEnds_seq]) (by rw [State.operationEnds_seq])
  have queue := hq.complete_queue hr
    (w := s.withSeq { s.seq with line := .idle, gap := g, handshakeReads := k } { s.arbiter with suspendRequest := b })
    (fun _ => rfl) st d p
  rw [State.operationEnds_queue]
  rcases queue with ⟨m, op', hn, -, e⟩ | ⟨hnot, e⟩ <;> rw [e]
  · have names : r.names p n ↔ n = m := by
      simp only [OpRecord.names, hn.1, hn.2, true_and, Source.queue.injEq, eq_comm]
    rw [names]
    exact Queue.setSlot_done_waiting ..
  · simp [hnot]

end

end Sys2Proof.Machine
end

section
/-! SUPPORT. The buffers' invariant under the events and the grants. -/

namespace Sys2Proof.Machine

section
variable {s t : State}

/-! ### Holders and slots under the shared operations -/

theorem State.flushQueue_holder (s : State) (p : Port) (b : Fin 16) :
    (s.flushQueue p).holder b = (s.holder b).flushed p (s.queue p) := by
  simp only [State.flushQueue, State.countCompletions_frame, State.holder, Fin.getElem_fin, Vector.getElem_ofFn]; rfl

theorem State.enqueue_holder (s : State) (p : Port) (op : SlotOp) (b : Fin 16) :
    (s.enqueue p op).holder b = if op.buffer = some b then .lentSlot p (s.queue p).post else s.holder b := by
  unfold State.enqueue
  cases h : op.buffer with
  | none => simp
  | some c => simp [State.setHolder_holder_eq, eq_comm]

theorem State.portReset_holder (s : State) (p : Port) (b : Fin 16) :
    (s.portReset p).holder b = (s.holder b).portReset p (s.queue p) := by
  have hpool : (s.portReset p).pool.holders = s.portResetHolders p := by
    unfold State.portReset State.dropAuthority State.dropHold
    simp only
    split <;> split <;> (try split) <;> simp
  simp only [State.holder, hpool, State.portResetHolders, Fin.getElem_fin, Vector.getElem_ofFn]

theorem State.fillEnds_holder (s : State) (r : OpRecord) (data : List Byte) (g : Nat) (b : Fin 16) :
    (s.fillEnds r data g).holder b = s.holder b := by
  unfold State.fillEnds State.deliverFill State.setSeqState; split <;> simp [State.removeActive]

theorem State.profileTaken_holder (s : State) (prof : Profile) (b : Fin 16) : (s.profileTaken prof).holder b = s.holder b := by
  have close (u : State) (p : Port) : (u.closeByCommit p).holder b = u.holder b := by
    unfold State.closeByCommit; simp only; split <;> simp
  simp only [State.profileTaken, close]; rfl

theorem State.denyHead_holder {s : State} {p : Port} {op : SlotOp} (hs : (s.queue p).slots[(s.queue p).start] = .queued op)
    (d : Nat) (b : Fin 16) :
    (s.denyHead p d).holder b = if op.buffer = some b then .port p else s.holder b := by
  have hw : ((s.modQueue p fun q => { q with start := q.start + 1 }).queue p).slots[(s.queue p).start].waiting = some op := by
    rw [State.modQueue_queue]
    change (s.queue p).slots[(s.queue p).start].waiting = some op
    rw [hs]; rfl
  simp only [State.denyHead, State.countDenial_frame]
  rw [State.finishSlot_holder hw]
  rfl

/-! ### An operation starts -/

/-- A record whose buffer, if it has one, is lent to the slot that it names. -/
theorem BuffersConsistent.of_started (hq : QueuesConsistent s) (h : BuffersConsistent s) {r : OpRecord}
    (idle : s.seq.active = none)
    (waiting : ∀ p (n : Fin 8), (t.queue p).slots[n].waiting = (s.queue p).slots[n].waiting)
    (holders : ∀ b, t.holder b = s.holder b) (active : t.seq.active = some r) (suspended : t.seq.suspended = s.seq.suspended)
    (orphan : r.orphan = false) (fill : ∀ p, r.source = .fill p → r.buffer = none)
    (slot : ∀ p n, r.source = .queue p n →
      (s.queue p).slots[n].isActive = false ∧ ∃ op, (s.queue p).slots[n].waiting = some op ∧ r.buffer = op.buffer) :
    BuffersConsistent t where
  lent p n op b hw hb := by rw [holders]; rw [waiting] at hw; exact h.lent p n op b hw hb
  named p n b hb := by rw [waiting]; exact h.named p n b (holders b ▸ hb)
  orphaned b := by
    rw [holders, h.orphaned]
    constructor
    · rintro ⟨r', hr' | hx, hb⟩
      · rw [idle] at hr'; cases hr'
      · exact ⟨r', .inr (suspended ▸ hx), hb⟩
    · rintro ⟨r', hr' | hx, ho, hb⟩
      · obtain rfl := Option.some.inj (active.symm.trans hr')
        rw [orphan] at ho; cases ho
      · exact ⟨r', .inr (suspended ▸ hx), ho, hb⟩
  record p n r' hr' hn := by
    rw [waiting]
    rcases hr' with hr' | hx
    · obtain rfl := Option.some.inj (active.symm.trans hr')
      exact (slot p n hn.2).2
    · exact h.record p n r' (.inr (suspended ▸ hx)) hn
  fills p r' hr' hs := by
    rcases hr' with hr' | hx
    · obtain rfl := Option.some.inj (active.symm.trans hr')
      exact fill p hs
    · exact h.fills p r' (.inr (suspended ▸ hx)) hs
  apart r' x b hr' hx hb hb' := by
    obtain rfl := Option.some.inj (active.symm.trans hr')
    have held : s.seq.holds x.op := .inr ⟨x, suspended ▸ hx, rfl⟩
    cases hsrc : r.source with
    | fill p => rw [fill p hsrc] at hb; cases hb
    | queue p n =>
      obtain ⟨hact, op, hw, hbuf⟩ := slot p n hsrc
      have hlent := (h.lent_iff hw b).1 (hbuf ▸ hb)
      cases hxo : x.op.orphan with
      | true => rw [(h.orphaned b).2 ⟨x.op, held, hxo, hb'⟩] at hlent; cases hlent
      | false =>
        cases hxs : x.op.source with
        | fill q => rw [h.fills q x.op held hxs] at hb'; cases hb'
        | queue q m =>
          obtain ⟨op', hw', hbuf'⟩ := h.record q m x.op held ⟨hxo, hxs⟩
          have hlent' := (h.lent_iff hw' b).1 (hbuf' ▸ hb')
          rw [hlent] at hlent'
          cases hlent'
          have := (hq.named p n).2 ⟨x.op, held, hxo, hxs⟩
          rw [hact] at this; cases this

/-! ### Posting, flushing and the port reset -/

theorem BuffersConsistent.enqueue (hq : QueuesConsistent s) (h : BuffersConsistent s) {p : Port} {op : SlotOp}
    (room : (s.queue p).isFull = false) (owned : s.ownsBuffer p op = true) : BuffersConsistent (s.enqueue p op) := by
  obtain ⟨d, a, k, hs⟩ := hq.rings p
  have free := hs.post_free (hs.room room)
  have held {b : Fin 16} (hb : op.buffer = some b) : s.holder b = .port p := by simpa [State.ownsBuffer, hb] using owned
  have waiting (q : Port) (n : Fin 8) (o : SlotOp) :
      ((s.enqueue p op).queue q).slots[n].waiting = some o ↔
        (q = p ∧ n = (s.queue p).post ∧ o = op) ∨ (s.queue q).slots[n].waiting = some o := by
    rw [State.enqueue_queue]
    by_cases hqp : q = p
    · subst hqp
      rw [if_pos rfl]
      change ((s.queue q).setSlot (s.queue q).post (.queued op)).slots[n].waiting = some o ↔ _
      rw [Queue.setSlot_slots]
      by_cases hn : n = (s.queue q).post
      · subst hn; rw [if_pos rfl, free]; simp [Slot.waiting, eq_comm]
      · rw [if_neg hn]; simp [hn]
    · rw [if_neg hqp]; simp [hqp]
  have holds (r : OpRecord) : (s.enqueue p op).seq.holds r ↔ s.seq.holds r := by rw [State.enqueue_seq]
  refine ⟨fun q n o b hw hb => ?_, fun q n b hb => ?_, fun b => ?_, fun q n r hr hn => ?_, fun q r hr => ?_, ?_⟩
  · rw [State.enqueue_holder]
    rcases (waiting q n o).1 hw with ⟨rfl, rfl, rfl⟩ | hw'
    · rw [if_pos hb]
    · have hl := h.lent q n o b hw' hb
      rw [if_neg fun e => by rw [held e] at hl; cases hl]
      exact hl
  · rw [State.enqueue_holder] at hb
    split at hb
    · next e => cases hb; exact ⟨op, (waiting ..).2 (.inl ⟨rfl, rfl, rfl⟩), e⟩
    · obtain ⟨o, hw, ho⟩ := h.named q n b hb
      exact ⟨o, (waiting ..).2 (.inr hw), ho⟩
  · simp only [State.enqueue_holder, holds, ← h.orphaned]
    split
    · next e => simp [held e]
    · rfl
  · obtain ⟨o, hw, ho⟩ := h.record q n r ((holds r).1 hr) hn
    exact ⟨o, (waiting ..).2 (.inr hw), ho⟩
  · exact h.fills q r ((holds r).1 hr)
  · rw [State.enqueue_seq]; exact h.apart

theorem BuffersConsistent.flushQueue (hq : QueuesConsistent s) (h : BuffersConsistent s) (p : Port) :
    BuffersConsistent (s.flushQueue p) := by
  refine h.of_finished (fun q n => q = p ∧ (s.queue p).slots[n].isQueued = true) (fun q n op => ?_) (fun b q n => ?_)
    (fun b => ?_) (fun r hr => ?_) (by rw [State.flushQueue_seq]; exact h.apart)
  · rw [State.flushQueue_queue]
    by_cases hqp : q = p
    · subst hqp
      rw [if_pos rfl]
      simp only [Fin.getElem_fin, Vector.getElem_ofFn]
      cases (s.queue q).slots[n.val] <;> simp [Slot.flushed, Slot.waiting, Slot.isQueued]
    · rw [if_neg hqp]; simp [hqp]
  · rw [State.flushQueue_holder]
    cases hb : s.holder b <;> simp only [Holder.flushed, reduceCtorEq, false_and]
    next q' m =>
      by_cases hc : q' = p ∧ (s.queue p).slots[m].isQueued = true
      · rw [if_pos (by simpa using hc)]
        simp only [reduceCtorEq, Holder.lentSlot.injEq, false_iff]
        rintro ⟨⟨rfl, rfl⟩, hno⟩; exact hno hc
      · rw [if_neg (by simpa using hc)]
        simp only [Holder.lentSlot.injEq, iff_self_and]
        rintro ⟨rfl, rfl⟩; exact hc
  · rw [State.flushQueue_seq, ← h.orphaned, State.flushQueue_holder]
    cases hb : s.holder b <;> simp only [Holder.flushed, reduceCtorEq]
    split <;> simp
  · rw [State.flushQueue_seq] at hr
    refine ⟨r, hr, rfl, fun q n hn hF => ?_⟩
    obtain ⟨rfl, hF⟩ := hF
    have hact := (hq.named q n).2 ⟨r, hr, hn⟩
    cases hx : (s.queue q).slots[n] <;> rw [hx] at hact hF
    case active => exact Bool.noConfusion hF
    all_goals exact Bool.noConfusion hact

theorem BuffersConsistent.portReset (hq : QueuesConsistent s) (h : BuffersConsistent s) (p : Port) :
    BuffersConsistent (s.portReset p) := by
  have waiting (q : Port) (n : Fin 8) (op : SlotOp) :
      ((s.portReset p).queue q).slots[n].waiting = some op ↔ (s.queue q).slots[n].waiting = some op ∧ q ≠ p := by
    rw [State.portReset_queue]
    by_cases hqp : q = p
    · rw [if_pos hqp]; simp [Queue.reset, Slot.waiting, hqp]
    · rw [if_neg hqp]; simp [hqp]
  have lent (b : Fin 16) (q : Port) (n : Fin 8) :
      (s.portReset p).holder b = .lentSlot q n ↔ s.holder b = .lentSlot q n ∧ q ≠ p := by
    rw [State.portReset_holder]
    cases hb : s.holder b <;> simp only [Holder.portReset, reduceCtorEq, false_and]
    · split <;> simp
    · next q' m =>
      by_cases hc : q' = p
      · rw [if_pos hc]
        have hno : ¬ (Holder.lentSlot q' m = .lentSlot q n ∧ q ≠ p) := by rintro ⟨e, hne⟩; cases e; exact hne hc
        simp only [hno, iff_false]
        split <;> simp
      · rw [if_neg hc]
        simp only [Holder.lentSlot.injEq, iff_self_and]
        rintro ⟨rfl, rfl⟩; exact hc
  have holds (r : OpRecord) : (s.portReset p).seq.holds r ↔ ∃ r0, s.seq.holds r0 ∧ r0.orphanFor p = r := by
    rw [State.portReset_seq, Sequencer.orphanFor_holds]
  have orphaned (r : OpRecord) : (r.orphanFor p).orphan = true ↔ r.source.port = p ∨ r.orphan = true := by
    unfold OpRecord.orphanFor
    split <;> simp [*]
  refine ⟨fun q n op b hw hb => ?_, fun q n b hb => ?_, fun b => ?_, fun q n r hr hn => ?_, fun q r hr hs => ?_, ?_⟩
  · obtain ⟨hw, hne⟩ := (waiting ..).1 hw
    exact (lent ..).2 ⟨h.lent q n op b hw hb, hne⟩
  · obtain ⟨hb, hne⟩ := (lent ..).1 hb
    obtain ⟨op, hw, ho⟩ := h.named q n b hb
    exact ⟨op, (waiting ..).2 ⟨hw, hne⟩, ho⟩
  · have orphan : (s.portReset p).holder b = .lentOrphan ↔ s.holder b = .lentOrphan
        ∨ ∃ n, s.holder b = .lentSlot p n ∧ (s.queue p).slots[n].isActive = true := by
      rw [State.portReset_holder]
      cases hb : s.holder b <;> simp only [Holder.portReset, reduceCtorEq, false_and, exists_false, or_false]
      · split <;> simp
      · next q' m =>
        by_cases hc : q' = p
        · subst hc
          simp [Holder.lentSlot.injEq]
        · rw [if_neg hc]; simp [Holder.lentSlot.injEq, hc]
    rw [orphan]
    constructor
    · rintro (ho | ⟨n, hl, hact⟩)
      · obtain ⟨r, hr, hro, hrb⟩ := (h.orphaned b).1 ho
        obtain ⟨-, -, -, hbuf, -⟩ := r.orphanFor_frame p
        exact ⟨r.orphanFor p, (holds _).2 ⟨r, hr, rfl⟩, (orphaned r).2 (.inr hro), hbuf.trans hrb⟩
      · obtain ⟨r, hr, hn⟩ := (hq.named p n).1 hact
        obtain ⟨op, hw, hop⟩ := h.record p n r hr hn
        obtain ⟨-, -, -, hbuf, -⟩ := r.orphanFor_frame p
        refine ⟨r.orphanFor p, (holds _).2 ⟨r, hr, rfl⟩, ?_, hbuf.trans (hop.trans ((h.lent_iff hw b).2 hl))⟩
        exact (orphaned r).2 (.inl (by rw [hn.2]; rfl))
    · rintro ⟨r', hr', ho, hb⟩
      obtain ⟨r, hr, rfl⟩ := (holds r').1 hr'
      obtain ⟨-, -, -, hbuf, -⟩ := r.orphanFor_frame p
      have hrb := hbuf.symm.trans hb
      cases hro : r.orphan with
      | true => exact .inl ((h.orphaned b).2 ⟨r, hr, hro, hrb⟩)
      | false =>
        have hsrc : r.source.port = p := ((orphaned r).1 ho).resolve_right (by simp [hro])
        cases hs : r.source with
        | fill q => rw [h.fills q r hr hs] at hrb; cases hrb
        | queue q n =>
          obtain rfl : q = p := by rw [hs] at hsrc; exact hsrc
          obtain ⟨op, hw, hop⟩ := h.record q n r hr ⟨hro, hs⟩
          exact .inr ⟨n, h.lent q n op b hw (hop.symm.trans hrb), (hq.named q n).2 ⟨r, hr, hro, hs⟩⟩
  · obtain ⟨r0, h0, rfl⟩ := (holds r).1 hr
    obtain ⟨hne, hn0⟩ := (OpRecord.names_orphanFor ..).1 hn
    obtain ⟨op, hw, hb⟩ := h.record q n r0 h0 hn0
    obtain ⟨-, -, -, hbuf, -⟩ := r0.orphanFor_frame p
    exact ⟨op, (waiting ..).2 ⟨hw, hne⟩, hbuf.trans hb⟩
  · obtain ⟨r0, h0, rfl⟩ := (holds r).1 hr
    obtain ⟨hsrc, -, -, hbuf, -⟩ := r0.orphanFor_frame p
    rw [hbuf]; exact h.fills q r0 h0 (hsrc ▸ hs)
  · rw [State.portReset_seq]
    intro r x b hr hx hb
    obtain ⟨r0, h0, rfl⟩ := Option.map_eq_some_iff.1 hr
    obtain ⟨x0, k0, rfl⟩ := Option.map_eq_some_iff.1 hx
    obtain ⟨-, -, -, hbuf, -⟩ := r0.orphanFor_frame p
    obtain ⟨-, -, -, hbuf', -⟩ := x0.op.orphanFor_frame p
    rw [show (x0.op.orphanFor p).buffer = _ from hbuf']
    exact h.apart r0 x0 b h0 k0 (hbuf ▸ hb)

end

end Sys2Proof.Machine
end

section
/-! SUPPORT. The buffers' invariant over a step. -/

namespace Sys2Proof.Machine

section
variable {s t : State}

/-- No slot waits, no buffer is lent, no record stands. -/
theorem BuffersConsistent.of_nothing (slots : ∀ p (n : Fin 8), (t.queue p).slots[n].waiting = none)
    (holders : ∀ b, t.holder b = .free) (active : t.seq.active = none) (suspended : t.seq.suspended = none) :
    BuffersConsistent t := by
  have none (r : OpRecord) : ¬ t.seq.holds r := by
    rintro (hr | ⟨x, hx, -⟩)
    · rw [active] at hr; cases hr
    · rw [suspended] at hx; cases hx
  refine ⟨fun p n op b hw => ?_, fun p n b hb => ?_, fun b => ?_, fun p n r hr => absurd hr (none r),
    fun p r hr => absurd hr (none r), fun r x b hr => ?_⟩
  · rw [slots] at hw; cases hw
  · rw [holders] at hb; cases hb
  · simp [holders, none]
  · rw [active] at hr; cases hr

theorem BuffersConsistent.silent (hq : QueuesConsistent s) (h : BuffersConsistent s) (e : Silent s t) :
    BuffersConsistent t := by
  cases e with
  | same => exact h
  | claimed free => exact h.setHolder_not_lent (by simp) (by simp [free])
  | released held => exact h.setHolder_not_lent (by simp) (by simp [held])
  | holdAsked | holdGiven | holdRenewed => exact h.of_frame (fun _ => rfl) (fun _ => rfl) (.refl _)
  | closed | stalled | stallEnded =>
    exact h.of_frame (fun _ => by simp [State.beginStall]) (fun _ => by simp [State.beginStall]) (.of_eq (by simp [State.beginStall]))
  | @retired p done =>
    refine h.of_alike (fun q n => ?_) (fun _ _ _ => Iff.rfl) (fun _ => Iff.rfl) (.refl _)
    rw [State.modQueue_queue_eq]
    split
    · next e =>
      subst e
      change ((s.queue q).setSlot (s.queue q).retire .free).slots[n].waiting = _
      rw [Queue.setSlot_slots]
      split
      · next e =>
        subst e
        cases hx : (s.queue q).slots[(s.queue q).retire] <;> rw [hx] at done
        case done => rfl
        all_goals exact Bool.noConfusion done
      · rfl
    · rfl
  | @stopped p x =>
    refine h.of_frame (fun q => ?_) (fun _ => rfl) (.refl _)
    change ((s.modQueue p _).queue q).slots = _
    rw [State.modQueue_queue_eq]
    split
    · next e => rw [e]
    · rfl
  | flushed => exact h.flushQueue hq _
  | sequencer move => exact h.of_frame (fun _ => rfl) (fun _ => rfl) move.alike
  | timedOut active => exact h.operationEnds hq active ..
  | committed =>
    refine h.of_frame (fun p => ?_) (fun b => ?_) ?_
    · change ((s.profileTaken _).queue p).slots = _; rw [State.profileTaken_queue]
    · change (s.profileTaken _).holder b = _; rw [State.profileTaken_holder]
    · rw [State.callLine_seq, State.setSeqState_seq, State.profileTaken_seq]; exact ⟨rfl, rfl⟩
  | poweredOn =>
    refine .of_nothing (fun p n => ?_) (fun b => ?_) rfl rfl
    · cases p <;> simp [State.queue, State.port, State.reset, PortState.reset, Both.get, Queue.reset, Slot.waiting]
    · simp [State.holder, State.reset, Pool.reset]

theorem BuffersConsistent.bringing (hq : QueuesConsistent s) (h : BuffersConsistent s) (e : Bringing s t) :
    BuffersConsistent t := by
  cases e with
  | enqueued room owned => exact h.enqueue hq room owned
  | @started p =>
    refine h.of_frame (fun q => ?_) (fun _ => rfl) (.refl _)
    change ((s.modQueue p _).queue q).slots = _
    rw [State.modQueue_queue_eq]
    split
    · next e => rw [e]
    · rfl
  | opened | byteTaken | holdEnded => exact h.of_frame (fun _ => by simp) (fun _ => by simp) (.of_eq (by simp))
  | portReset => exact h.portReset hq _
  | sequencer move => exact h.of_frame (fun _ => rfl) (fun _ => rfl) move.alike
  | operationEnded active => exact h.operationEnds hq active ..
  | @fillEnded r data g active kind =>
    obtain ⟨p, hp⟩ := (hq.kinds r (.inl active)).1 kind
    have hno (q : Port) (n : Fin 8) : ¬ r.names q n := fun hn => by rw [hn.2] at hp; cases hp
    have hbuf := h.fills p r (.inl active) hp
    refine h.of_removed hq active (fun q n op => ?_) (fun b q n => ?_) (fun b => ?_) ?_ ?_
    · simp [State.fillEnds_queue, hno]
    · simp [State.fillEnds_holder, hno]
    · simp [State.fillEnds_holder, hbuf]
    · rw [State.fillEnds_seq]
    · rw [State.fillEnds_seq]
  | @operationParked r g n k active state =>
    have hno := hq.records.alone (by rw [state]; decide) (by rw [state]; decide)
    refine h.of_same (fun _ _ => rfl) (fun _ _ _ => Iff.rfl) (fun _ => Iff.rfl) ?_ ?_ (fun r' x b hr => by cases hr)
    · rintro r' (hr | ⟨x, hx, rfl⟩)
      · cases hr
      · obtain rfl := Option.some.inj hx
        exact ⟨r, .inl active, rfl⟩
    · rintro r' (hr | ⟨x, hx, rfl⟩)
      · obtain rfl := Option.some.inj (active.symm.trans hr)
        exact ⟨_, .inr ⟨_, rfl, rfl⟩, rfl⟩
      · rw [hno] at hx; cases hx

theorem BuffersConsistent.granted (hq : QueuesConsistent s) (h : BuffersConsistent s) (idle : s.seq.state = .idle)
    (g : Granted s t) : BuffersConsistent t := by
  have none := hq.idle_active idle
  cases g with
  | fillDenied => exact h.of_frame (fun _ => by simp) (fun _ => by simp) (.of_eq (by simp))
  | @fillStarted p =>
    refine h.of_started hq (r := s.fillRecord p) none (fun q n => ?_) (fun b => ?_) ?_ ?_ rfl (fun _ _ => rfl) ?_
    · simp [State.startFill]
    · simp [State.startFill]
    · rw [State.startFill_seq]
    · rw [State.startFill_seq]
    · rintro q n hn; cases hn
  | @headDenied p op d head =>
    obtain ⟨-, -, hs⟩ := Queue.head_eq_some head
    have hw : (s.queue p).slots[(s.queue p).start].waiting = some op := by rw [hs]; rfl
    have seq : (s.denyHead p d).seq = s.seq := by simp
    refine h.of_finished (fun q n => q = p ∧ n = (s.queue p).start) (fun q n o => ?_) (fun b q n => ?_) (fun b => ?_)
      (fun r hr => ?_) (by rw [seq]; exact h.apart)
    · rw [State.denyHead_queue hs]
      by_cases hqp : q = p
      · subst hqp
        simp only [if_true, true_and]
        exact Queue.setSlot_done_waiting ..
      · rw [if_neg hqp]; simp [hqp]
    · rw [State.denyHead_holder hs]; exact h.lent_after_finish hw b q n
    · rw [State.denyHead_holder hs, h.orphan_after_finish hw, seq]; exact h.orphaned b
    · rw [seq] at hr
      refine ⟨r, hr, rfl, ?_⟩
      rintro q n hn ⟨rfl, rfl⟩
      have := (hq.named _ _).2 ⟨r, hr, hn⟩
      rw [hs] at this; exact Bool.noConfusion this
  | @headStarted p op head =>
    obtain ⟨-, hno, hs⟩ := Queue.head_eq_some head
    refine h.of_started hq (r := s.headRecord p op) none (fun q n => ?_) (fun b => ?_) ?_ ?_ rfl ?_ ?_
    · rw [State.startHead_queue]
      split
      · next e =>
        subst e
        change ((s.queue q).setSlot (s.queue q).start (.active op)).slots[n].waiting = _
        rw [Queue.setSlot_slots]
        split
        · next e => rw [e, hs]; rfl
        · rfl
      · rfl
    · simp only [State.startHead]
      split <;> simp
    · rw [State.startHead_seq]
    · rw [State.startHead_seq]
    · intro q hn; cases hn
    · intro q n hn
      cases hn
      exact ⟨(Queue.hasActive_eq_false _).1 hno _, op, by rw [hs]; rfl, rfl⟩
  | @resumed x record =>
    refine h.of_same (fun _ _ => rfl) (fun _ _ _ => Iff.rfl) (fun _ => Iff.rfl) ?_ ?_ (fun r' y b hr hy => by cases hy)
    · rintro r' (hr | ⟨y, hy, rfl⟩)
      · obtain rfl := Option.some.inj hr
        exact ⟨x.op, .inr ⟨x, record, rfl⟩, rfl⟩
      · cases hy
    · rintro r' (hr | ⟨y, hy, rfl⟩)
      · rw [none] at hr; cases hr
      · obtain rfl := Option.some.inj (record.symm.trans hy)
        exact ⟨x.op, .inl rfl, rfl⟩

end

theorem BuffersConsistent.kept : Kept fun s => QueuesConsistent s ∧ BuffersConsistent s where
  core {s t} e h := by
    refine ⟨QueuesConsistent.kept.core e h.1, h.2.of_alike (fun p n => ?_) (fun b p n => ?_) (fun b => ?_) (.of_eq (State.seq_of_core e))⟩
    · have := congrArg (fun u => (u.queue p).slots[n].waiting) e
      simpa [Queue.ring] using this
    · rw [show t.holder b = s.holder b from congrArg (fun u => u.holder b) e]
    · rw [show t.holder b = s.holder b from congrArg (fun u => u.holder b) e]
  time d h := ⟨QueuesConsistent.kept.time d h.1, h.2.of_frame (fun p => by rw [State.elapse_queue]) (fun b => by simp) (.elapse d _)⟩
  silent h e := ⟨h.1.silent e, h.2.silent h.1 e⟩
  bringing h e := ⟨h.1.bringing e, h.2.bringing h.1 e⟩
  granted h hi g := ⟨h.1.granted hi g, h.2.granted h.1 hi g⟩

/-- Settles O56: the slots that finish pass their buffer on, the operation that starts takes that of its slot. -/
theorem buffersStayConsistent : Obligations.BuffersStayConsistent := by
  unfold Obligations.BuffersStayConsistent
  exact fun s t hq h hstep => (BuffersConsistent.kept.step ⟨hq, h⟩ hstep).2

end Sys2Proof.Machine
end

section
/-! SUPPORT. One aperture beside the sequencer's records: its shape, its fill and its coherence (R97 to R111). -/

namespace Sys2Proof.Machine

/-- What the apertures' invariant says of port `p`'s aperture, at capacity `c`, beside the records of `q`. -/
structure ApertureIn (c : Nat) (p : Port) (q : Sequencer) (a : Aperture) : Prop where
  shape : ApertureShape a
  bound : a.fetch ≤ c
  ended : a.state = .ended → a.fetch = c
  marker : a.inFlight = true ↔ ∃ r, q.active = some r ∧ r.fills p
  fits : ∀ r, q.active = some r → r.fills p → r.generation = some a.generation → FillFits a r.range c
  fresh : ∀ r x, q.holds r → r.kind.isWrite = true → a.current ≤ x → x < a.fetch → r.range.contains x = false

/-- Every fill record is of at least one byte (R66). -/
def FillsNonempty (q : Sequencer) : Prop := ∀ r, q.holds r → r.kind = .fill → 1 ≤ r.range.length

theorem aperturesConsistent_iff (s : State) :
    AperturesConsistent s ↔ (∀ p, ApertureIn s.capacity p s.seq (s.aperture p)) ∧ FillsNonempty s.seq :=
  ⟨fun h => ⟨fun p => ⟨h.shape p, h.bound p, h.ended p, h.marker p, h.fits p, h.fresh p⟩, h.fills⟩,
    fun ⟨h, hf⟩ => ⟨fun p => (h p).shape, fun p => (h p).bound, fun p => (h p).ended, hf, fun p => (h p).marker,
      fun p => (h p).fits, fun p => (h p).fresh⟩⟩

section
variable {c : Nat} {p : Port} {q q' : Sequencer} {a a' : Aperture}

/-! ### The records change -/

/-- The fill of the port stays, and no write-class range is new. -/
theorem ApertureIn.of_records (h : ApertureIn c p q a)
    (fills : ∀ r', q'.active = some r' → r'.fills p →
      ∃ r, q.active = some r ∧ r.fills p ∧ r.range = r'.range ∧ r.generation = r'.generation)
    (stays : ∀ r, q.active = some r → r.fills p → ∃ r', q'.active = some r' ∧ r'.fills p)
    (writes : ∀ r', q'.holds r' → r'.kind.isWrite = true → ∃ r, q.holds r ∧ r.kind.isWrite = true ∧ r.range = r'.range) :
    ApertureIn c p q' a where
  shape := h.shape
  bound := h.bound
  ended := h.ended
  marker := by
    rw [h.marker]
    constructor
    · rintro ⟨r, hr, hf⟩; exact stays r hr hf
    · rintro ⟨r, hr, hf⟩
      obtain ⟨r0, h0, hf0, -⟩ := fills r hr hf
      exact ⟨r0, h0, hf0⟩
  fits r hr hf hg := by
    obtain ⟨r0, h0, hf0, hrange, hgen⟩ := fills r hr hf
    exact hrange ▸ h.fits r0 h0 hf0 (hgen.trans hg)
  fresh r x hr hw h1 h2 := by
    obtain ⟨r0, h0, hw0, hrange⟩ := writes r hr hw
    exact hrange ▸ h.fresh r0 x h0 hw0 h1 h2

theorem ApertureIn.of_alike (h : ApertureIn c p q a) (alike : q.Alike q') : ApertureIn c p q' a := by
  have fills_congr {r t : OpRecord} (e : r.identity = t.identity) (ht : t.fills p) : r.fills p := by
    obtain ⟨hs, ho, -⟩ := OpRecord.of_identity e
    exact ⟨hs.trans ht.1, ho.trans ht.2⟩
  refine h.of_records (fun r' hr' hf => ?_) (fun r hr hf => ?_) fun r' hr' hw => ?_
  · obtain ⟨r, hr, e⟩ := alike.exists_active hr'
    obtain ⟨-, -, -, hrange, -, hgen⟩ := OpRecord.of_identity e
    exact ⟨r, hr, fills_congr e hf, hrange, hgen⟩
  · obtain ⟨r', hr', e⟩ := alike.symm.exists_active hr
    exact ⟨r', hr', fills_congr e hf⟩
  · obtain ⟨r, hr, e⟩ := alike.exists_holds hr'
    obtain ⟨-, -, hk, hrange, -⟩ := OpRecord.of_identity e
    exact ⟨r, hr, hk ▸ hw, hrange⟩

/-- The active operation leaves, and it was no fill of this aperture. -/
theorem ApertureIn.of_removed (h : ApertureIn c p q a) (other : ∀ r, q.active = some r → ¬ r.fills p)
    (active : q'.active = none) (suspended : q'.suspended = q.suspended) : ApertureIn c p q' a := by
  refine h.of_records (fun r' hr' => ?_) (fun r hr hf => absurd hf (other r hr)) fun r' hr' hw => ?_
  · rw [active] at hr'; cases hr'
  · rcases hr' with hr' | hx
    · rw [active] at hr'; cases hr'
    · exact ⟨r', .inr (suspended ▸ hx), hw, rfl⟩

/-! ### The aperture changes -/

/-- Only the stall and the settings change; a read is stalled only with OPEN and an empty FIFO. -/
theorem ApertureIn.of_stream (h : ApertureIn c p q a) (state : a'.state = a.state) (current : a'.current = a.current)
    (fetch : a'.fetch = a.fetch) (fifo : a'.fifo = a.fifo) (generation : a'.generation = a.generation)
    (inFlight : a'.inFlight = a.inFlight) (timer : a'.stallTimer.isSome = a'.stalled)
    (stalled : a'.stalled = true → a.state = .opened ∧ a.fifo = []) : ApertureIn c p q a' where
  shape :=
    { count := by rw [current, fetch, fifo]; exact h.shape.count
      room := by rw [fifo]; exact h.shape.room
      closed := by rw [state, fifo, current]; exact h.shape.closed
      ended := by rw [state, fifo]; exact h.shape.ended
      stalled := by rw [state, fifo]; exact stalled
      timer := timer }
  bound := fetch ▸ h.bound
  ended := by rw [state, fetch]; exact h.ended
  marker := by rw [inFlight]; exact h.marker
  fits r hr hf hg := by
    obtain ⟨h1, h2, h3, h4⟩ := h.fits r hr hf (generation ▸ hg)
    exact ⟨state.trans h1, h2.trans fetch.symm, by rw [fifo]; exact h3, h4⟩
  fresh := by rw [current, fetch]; exact h.fresh

theorem ApertureIn.endStall (h : ApertureIn c p q a) : ApertureIn c p q { a with stalled := false, stallTimer := none } :=
  h.of_stream rfl rfl rfl rfl rfl rfl rfl nofun

/-- A restart: the FIFO is empty at the new address, and a fill in flight is of an older generation (R99, R100, R102, R112). -/
theorem ApertureIn.restart (h : ApertureIn c p q a) (free : a.stalled = false) {x : ApertureState} {n c' : Nat}
    (place : x = .closed ∧ n = 0 ∨ x = .opened ∧ n ≤ c')
    (older : ∀ r, q.active = some r → r.fills p → r.generation ≠ some a.generation →
      r.generation ≠ some (a.generation + 1)) :
    ApertureIn c' p q (a.restart x n) where
  shape :=
    { count := by simp [Aperture.restart]
      room := by simp [Aperture.restart]
      closed := by rcases place with ⟨rfl, rfl⟩ | ⟨rfl, -⟩ <;> simp [Aperture.restart]
      ended := fun _ => rfl
      stalled := fun e => by rw [show (a.restart x n).stalled = a.stalled from rfl, free] at e; cases e
      timer := h.shape.timer }
  bound := by rcases place with ⟨-, rfl⟩ | ⟨-, hn⟩ <;> simp [Aperture.restart, *]
  ended := by rcases place with ⟨rfl, -⟩ | ⟨rfl, -⟩ <;> simp [Aperture.restart]
  marker := h.marker
  fits r hr hf hg := by
    refine absurd hg ?_
    change r.generation ≠ some (a.generation + 1)
    by_cases e : r.generation = some a.generation
    · rw [e]; simp
    · exact older r hr hf e
  fresh r y _ _ h1 h2 := by
    change n ≤ y at h1
    change y < n at h2
    omega

/-- No fill of the current generation can end beyond capacity, so END is entered with none on the way (R106). -/
theorem ApertureIn.endAtCapacity (h : ApertureIn c p q a) (free : a.stalled = false)
    (nonempty : ∀ r, q.active = some r → r.fills p → 1 ≤ r.range.length) : ApertureIn c p q (a.endAtCapacity c) := by
  unfold Aperture.endAtCapacity
  split
  · next e =>
    simp only [Bool.and_eq_true, decide_eq_true_eq, List.isEmpty_iff] at e
    obtain ⟨⟨-, he⟩, hc⟩ := e
    refine ⟨⟨h.shape.count, h.shape.room, nofun, fun _ => he, fun e => ?_, h.shape.timer⟩, h.bound, fun _ => hc, h.marker,
      fun r hr hf hg => ?_, h.fresh⟩
    · exact absurd (e.symm.trans free) (by simp)
    · obtain ⟨-, h2, -, h4⟩ := h.fits r hr hf hg
      have := nonempty r hr hf
      omega
  · exact h

theorem ApertureIn.not_stalled (h : ApertureIn c p q a) (fifo : a.fifo ≠ []) : a.stalled = false := by
  cases hs : a.stalled
  · rfl
  · exact absurd (h.shape.stalled hs).2 fifo

/-- The oldest byte leaves (R106, R107). -/
theorem ApertureIn.takeByte (h : ApertureIn c p q a) (byte : a.fifo ≠ [])
    (nonempty : ∀ r, q.active = some r → r.fills p → 1 ≤ r.range.length) : ApertureIn c p q (a.takeByte c) := by
  have free := h.not_stalled byte
  have length : a.fifo.tail.length + 1 = a.fifo.length := by
    cases hf : a.fifo with
    | nil => exact absurd hf byte
    | cons => rfl
  refine ApertureIn.endAtCapacity ⟨⟨?_, ?_, fun e => ?_, fun e => ?_, fun e => ?_, h.shape.timer⟩, h.bound, h.ended, h.marker,
    fun r hr hf hg => ?_, fun r x hr hw h1 h2 => ?_⟩ free nonempty
  · have := h.shape.count
    change a.current + 1 + a.fifo.tail.length = a.fetch
    omega
  · have := h.shape.room
    change a.fifo.tail.length ≤ 16
    omega
  · exact absurd (h.shape.closed e).1 byte
  · exact absurd (h.shape.ended e) byte
  · exact absurd (free.symm.trans e) (by simp)
  · obtain ⟨h1, h2, h3, h4⟩ := h.fits r hr hf hg
    refine ⟨h1, h2, ?_, h4⟩
    change a.fifo.tail.length + _ ≤ 16
    omega
  · change a.current + 1 ≤ x at h1
    exact h.fresh r x hr hw (by omega) h2

/-- The purge: what remains of the FIFO shares no address with the range that starts (R110). -/
theorem ApertureIn.purge (h : ApertureIn c p q a) {r : OpRecord} (idle : q.active = none) (active : q'.active = some r)
    (suspended : q'.suspended = q.suspended) (other : ¬ r.fills p) : ApertureIn c p q' (a.purge r.range) := by
  have notFill (t : OpRecord) (ht : q'.active = some t) : ¬ t.fills p := by
    obtain rfl := Option.some.inj (active.symm.trans ht)
    exact other
  have marker : a.inFlight = true ↔ ∃ t, q'.active = some t ∧ t.fills p := by
    rw [h.marker, idle]
    simp only [reduceCtorEq, false_and, exists_false, false_iff]
    rintro ⟨t, ht, hf⟩
    exact notFill t ht hf
  unfold Aperture.purge
  split
  · refine ⟨⟨rfl, by simp, fun e => ?_, fun _ => rfl, fun e => ?_, h.shape.timer⟩, ?_, fun e => ?_, marker,
      fun t ht hf => absurd hf (notFill t ht), fun t x _ _ h1 h2 => ?_⟩
    · exact ⟨rfl, (h.shape.closed e).2⟩
    · exact ⟨(h.shape.stalled e).1, rfl⟩
    · have := h.shape.count
      have := h.bound
      change a.current ≤ c
      omega
    · have := h.shape.count
      rw [h.shape.ended e] at this
      exact this.trans (h.ended e)
    · change a.current ≤ x at h1
      change x < a.current at h2
      omega
  · next apart =>
    refine ⟨h.shape, h.bound, h.ended, marker, fun t ht hf => absurd hf (notFill t ht), fun t x ht hw h1 h2 => ?_⟩
    rcases ht with ht | hx
    · obtain rfl := Option.some.inj (active.symm.trans ht)
      have count := h.shape.count
      have hne : a.fifo.isEmpty = false := by
        cases hf : a.fifo with
        | nil => rw [hf] at count; simp at count; omega
        | cons => rfl
      simp only [hne, Bool.not_false, Bool.true_and, Range.overlaps_eq_true] at apart
      rw [← Bool.not_eq_true, Range.contains_eq_true]
      rintro ⟨h3, h4⟩
      refine apart ?_
      omega
    · exact h.fresh t x (.inr (suspended ▸ hx)) hw h1 h2

/-- A denied fill leaves the aperture DENIED, with no read stalled (R73, R104). -/
theorem ApertureIn.denied (h : ApertureIn c p q a) (idle : q.active = none) :
    ApertureIn c p q { a with state := .denied, stalled := false, stallTimer := if a.stalled then none else a.stallTimer } where
  shape :=
    { count := h.shape.count
      room := h.shape.room
      closed := nofun
      ended := nofun
      stalled := nofun
      timer := by
        have := h.shape.timer
        cases hs : a.stalled <;> simp_all }
  bound := h.bound
  ended := nofun
  marker := h.marker
  fits r hr := by rw [idle] at hr; cases hr
  fresh := h.fresh

/-- A fill begins that fits the aperture (R66, R71, R97). -/
theorem ApertureIn.filled (h : ApertureIn c p q a) {r : OpRecord} (active : q'.active = some r)
    (suspended : q'.suspended = q.suspended) (fill : r.fills p) (read : r.kind.isWrite = false) (fits : FillFits a r.range c) :
    ApertureIn c p q' { a with inFlight := true } where
  shape := ⟨h.shape.count, h.shape.room, h.shape.closed, h.shape.ended, h.shape.stalled, h.shape.timer⟩
  bound := h.bound
  ended := h.ended
  marker := by simp only [true_iff]; exact ⟨r, active, fill⟩
  fits t ht _ _ := by
    obtain rfl := Option.some.inj (active.symm.trans ht)
    exact ⟨fits.opened, fits.next, fits.room, fits.inside⟩
  fresh t x ht hw := by
    rcases ht with ht | hx
    · obtain rfl := Option.some.inj (active.symm.trans ht)
      rw [read] at hw; cases hw
    · exact h.fresh t x (.inr (suspended ▸ hx)) hw

/-- A current fill of `n` bytes has arrived: the aperture's addresses have advanced and its bytes lie apart from the suspended
operation's range. -/
theorem ApertureIn.arrived (h : ApertureIn c p q a) {r : OpRecord} {b : Aperture} (fits : FillFits a r.range c)
    (apart : ∀ x, q.suspended = some x → r.range.overlaps x.op.range = false)
    (active : q'.active = none) (suspended : q'.suspended = q.suspended)
    (state : b.state = .opened) (free : b.stalled = false) (timer : b.stallTimer = none) (marker : b.inFlight = false)
    (count : b.current + b.fifo.length = b.fetch) (room : b.fifo.length ≤ 16) (current : a.current ≤ b.current)
    (fetch : b.fetch = a.fetch + r.range.length) : ApertureIn c p q' (b.endAtCapacity c) := by
  have none (t : OpRecord) (ht : q'.active = some t) : False := by rw [active] at ht; cases ht
  refine ApertureIn.endAtCapacity ⟨⟨count, room, fun e => ?_, fun e => ?_, fun e => ?_, by rw [timer, free]; rfl⟩, ?_,
    fun e => ?_, ?_, fun t ht => (none t ht).elim, fun t x ht hw h1 h2 => ?_⟩ free fun t ht => (none t ht).elim
  · rw [state] at e; cases e
  · rw [state] at e; cases e
  · rw [free] at e; cases e
  · have := fits.next
    have := fits.inside
    omega
  · rw [state] at e; cases e
  · rw [marker]
    simp only [Bool.false_eq_true, false_iff]
    rintro ⟨t, ht, -⟩
    exact none t ht
  · rcases ht with ht | ⟨y, hy, rfl⟩
    · exact (none t ht).elim
    · rw [suspended] at hy
      by_cases hx : x < a.fetch
      · exact h.fresh y.op x (.inr ⟨y, hy, rfl⟩) hw (by omega) hx
      · have hno := apart y hy
        rw [← Bool.not_eq_true, Range.overlaps_eq_true] at hno
        rw [← Bool.not_eq_true, Range.contains_eq_true]
        rintro ⟨h3, h4⟩
        have := fits.next
        refine hno ?_
        omega

/-- The bytes of a fill arrive: a current one's follow the FIFO, or give a stalled read its byte (R105). -/
theorem ApertureIn.arrival (h : ApertureIn c p q a) {r : OpRecord} {data : List Byte} (hr : q.active = some r)
    (fill : r.fills p) (size : data.length = r.range.length) (nonempty : 1 ≤ r.range.length)
    (apart : ∀ x, q.suspended = some x → r.range.overlaps x.op.range = false)
    (active : q'.active = none) (suspended : q'.suspended = q.suspended) :
    ApertureIn c p q' (a.afterArrival c r.generation data) := by
  have count := h.shape.count
  unfold Aperture.afterArrival
  split
  · next hg =>
    have fits := h.fits r hr fill hg.1
    have room := fits.room
    split
    · next hs =>
      have empty : a.fifo.length = 0 := by rw [(h.shape.stalled hs).2]; rfl
      simp only [List.length_cons] at size
      refine h.arrived fits apart active suspended hg.2 rfl rfl rfl ?_ ?_ (Nat.le_succ _) (by simp [size]) <;>
        · simp only [List.length_append, List.length_cons]
          omega
    · next hs =>
      have free : a.stalled = false := by
        cases hst : a.stalled
        · rfl
        · obtain ⟨d, rest, e⟩ := List.exists_cons_of_length_pos (Nat.lt_of_lt_of_eq nonempty size.symm)
          exact (hs d rest hst e).elim
      have timer : a.stallTimer = none := by
        have := h.shape.timer
        rw [free] at this
        exact Option.not_isSome_iff_eq_none.1 (by rw [this]; simp)
      refine h.arrived fits apart active suspended hg.2 free timer rfl ?_ ?_ (Nat.le_refl _) (by simp [size]) <;>
        · simp only [List.length_append]
          omega
  · have idle (t : OpRecord) (ht : q'.active = some t) : False := by rw [active] at ht; cases ht
    refine ⟨⟨count, h.shape.room, h.shape.closed, h.shape.ended, h.shape.stalled, h.shape.timer⟩, h.bound, h.ended, ?_,
      fun t ht => (idle t ht).elim, fun t x ht => ?_⟩
    · simp only [Bool.false_eq_true, false_iff]
      rintro ⟨t, ht, -⟩
      exact idle t ht
    · rcases ht with ht | hx
      · exact (idle t ht).elim
      · exact h.fresh t x (.inr (suspended ▸ hx))

/-- The apertures after a port reset of another port. -/
theorem ApertureIn.portReset_other (h : ApertureIn c p q a) {p' : Port} (other : p ≠ p') :
    ApertureIn c p (q.orphanFor p') a := by
  have fills_iff (r : OpRecord) : (r.orphanFor p').fills p ↔ r.fills p := by
    unfold OpRecord.orphanFor
    split
    · next e =>
      constructor
      · rintro ⟨-, ho⟩; cases ho
      · rintro ⟨hs, -⟩; rw [hs] at e; exact absurd e other
    · rfl
  refine h.of_records (fun r' hr' hf => ?_) (fun r hr hf => ?_) fun r' hr' hw => ?_
  · obtain ⟨r, hr, rfl⟩ := Option.map_eq_some_iff.1 hr'
    obtain ⟨-, -, hrange, -, -, -, hgen⟩ := r.orphanFor_frame p'
    exact ⟨r, hr, (fills_iff r).1 hf, hrange.symm, hgen.symm⟩
  · exact ⟨_, Option.map_eq_some_iff.2 ⟨r, hr, rfl⟩, (fills_iff r).2 hf⟩
  · obtain ⟨r, hr, rfl⟩ := (Sequencer.orphanFor_holds ..).1 hr'
    obtain ⟨-, hk, hrange, -⟩ := r.orphanFor_frame p'
    exact ⟨r, hr, hk ▸ hw, hrange.symm⟩

/-- The aperture of the port that is reset: closed, and its fill is an orphan's (R51, R113). -/
theorem ApertureIn.portReset_own (c : Nat) (p : Port) (q : Sequencer) (a : Aperture) :
    ApertureIn c p (q.orphanFor p) a.portReset := by
  have notFill (r : OpRecord) (hr : (q.orphanFor p).active = some r) : ¬ r.fills p := by
    obtain ⟨r0, -, rfl⟩ := Option.map_eq_some_iff.1 hr
    rintro ⟨hs, ho⟩
    unfold OpRecord.orphanFor at hs ho
    split at ho
    · cases ho
    · next e =>
      rw [if_neg e] at hs
      rw [hs] at e
      exact e rfl
  refine ⟨⟨rfl, by simp [Aperture.portReset, Aperture.reset], fun _ => ⟨rfl, rfl⟩, nofun, nofun, rfl⟩, Nat.zero_le _, nofun, ?_,
    fun r hr hf => absurd hf (notFill r hr), fun r x _ _ _ h2 => absurd h2 (Nat.not_lt_zero x)⟩
  simp only [Aperture.portReset, Aperture.reset, Bool.false_eq_true, false_iff]
  rintro ⟨r, hr, hf⟩
  exact notFill r hr hf

end

end Sys2Proof.Machine
end

section
/-! SUPPORT. The apertures' invariant over a step. -/

namespace Sys2Proof.Machine

section
variable {s t : State}

/-! ### Apertures and capacity under the shared operations -/

theorem State.elapse_aperture_eq (s : State) (d : Nat) (p : Port) :
    (s.elapse d).aperture p = { s.aperture p with stallTimer := elapseTimer d (s.aperture p).stallTimer } := by
  cases p <;> rfl

theorem State.operationEnds_aperture (s : State) (r : OpRecord) (st : Status) (d : Byte) (q : SeqState) (g k : Nat) (b : Bool)
    (p : Port) : (s.operationEnds r st d q g k b).aperture p = s.aperture p := by
  simp only [State.operationEnds, State.setSeqState_aperture, State.complete_frame]; rfl

theorem State.portReset_aperture (s : State) (p q : Port) :
    (s.portReset p).aperture q = if q = p then (s.aperture p).portReset else s.aperture q := by
  have own : (s.modPort p PortState.portReset).aperture q = if q = p then (s.aperture p).portReset else s.aperture q := by
    simp only [State.aperture, State.port_modPort_eq]
    split <;> rfl
  have hold (w : State) : (w.dropHold p).aperture q = w.aperture q := by unfold State.dropHold; split <;> simp
  have authority (w : State) : (w.dropAuthority p).aperture q = w.aperture q := by
    unfold State.dropAuthority; split <;> simp
  rw [← own]
  unfold State.portReset
  simp only [State.raise_frame]
  split <;> simp only [State.noticeFreed_frame, hold, authority] <;> rfl

theorem State.enqueue_aperture (s : State) (p q : Port) (op : SlotOp) : (s.enqueue p op).aperture q = s.aperture q := by
  unfold State.enqueue; simp only; split <;> simp

theorem State.flushQueue_aperture (s : State) (p q : Port) : (s.flushQueue p).aperture q = s.aperture q := by
  simp only [State.flushQueue, State.countCompletions_frame]
  rw [show ∀ (w : State) (x : Pool), ({ w with pool := x } : State).aperture q = w.aperture q from fun _ _ => rfl]
  exact s.modQueue_aperture_frame p _ q

theorem State.fillEnds_aperture (s : State) (r : OpRecord) (data : List Byte) (g : Nat) (p : Port) :
    (s.fillEnds r data g).aperture p
      = if r.orphan = false ∧ p = r.source.port then (s.aperture p).afterArrival s.capacity r.generation data
        else s.aperture p := by
  simp only [State.fillEnds, State.setSeqState_aperture, State.holdNotice_frame, State.deliverFill]
  cases r.orphan
  · simp only [Bool.false_eq_true, if_false, State.fillArrival_aperture, true_and]
    split
    · next e => subst e; rfl
    · rfl
  · rfl

theorem State.closeByCommit_aperture (s : State) (p q : Port) :
    (s.closeByCommit p).aperture q
      = if q = p then { (s.aperture p).restart .closed 0 with
            stalled := false, stallTimer := if (s.aperture p).stalled then none else (s.aperture p).stallTimer }
        else s.aperture q := by
  unfold State.closeByCommit
  rcases Port.eq_or_peer p q with rfl | rfl <;> cases h : (s.aperture _).stalled <;>
    simp [State.endStall_aperture, State.modAperture_aperture_eq, h, Aperture.restart]

theorem State.startHead_aperture (s : State) (p q : Port) (op : SlotOp) :
    (s.startHead p op).aperture q = if op.kind.isWrite then (s.aperture q).purge op.range else s.aperture q := by
  simp only [State.startHead, State.startOperation_frame]
  split <;> simp [State.purge_aperture]

theorem State.profileTaken_aperture (s : State) (prof : Profile) (p : Port) :
    (s.profileTaken prof).aperture p
      = { (s.aperture p).restart .closed 0 with
            stalled := false, stallTimer := if (s.aperture p).stalled then none else (s.aperture p).stallTimer } := by
  cases p <;> simp only [State.profileTaken, State.closeByCommit_aperture] <;> rfl

/-! ### The invariant under the events -/

theorem AperturesConsistent.at (h : AperturesConsistent s) (p : Port) : ApertureIn s.capacity p s.seq (s.aperture p) :=
  ((aperturesConsistent_iff s).1 h).1 p

theorem AperturesConsistent.of_apertures (h : AperturesConsistent s)
    (apertures : ∀ p, ApertureIn t.capacity p t.seq (t.aperture p))
    (fills : ∀ r', t.seq.holds r' → r'.kind = .fill → ∃ r, s.seq.holds r ∧ r.kind = .fill ∧ r.range = r'.range) :
    AperturesConsistent t := by
  refine (aperturesConsistent_iff t).2 ⟨apertures, fun r' hr' hk => ?_⟩
  obtain ⟨r, hr, hk, e⟩ := fills r' hr' hk
  exact e ▸ h.fills r hr hk

/-- The same operations are held, and every aperture stays or changes beside them. -/
theorem AperturesConsistent.of_alike (h : AperturesConsistent s) (alike : s.seq.Alike t.seq)
    (apertures : ∀ p, ApertureIn t.capacity p s.seq (t.aperture p)) : AperturesConsistent t := by
  refine h.of_apertures (fun p => (apertures p).of_alike alike) fun r' hr' hk => ?_
  obtain ⟨r, hr, e⟩ := alike.exists_holds hr'
  obtain ⟨-, -, hk', hrange, -⟩ := OpRecord.of_identity e
  exact ⟨r, hr, hk'.trans hk, hrange⟩

theorem AperturesConsistent.of_frame (h : AperturesConsistent s) (alike : s.seq.Alike t.seq)
    (apertures : ∀ p, t.aperture p = s.aperture p) (capacity : t.capacity = s.capacity) : AperturesConsistent t :=
  h.of_alike alike fun p => by rw [apertures, capacity]; exact h.at p

/-- One aperture changes. -/
theorem AperturesConsistent.of_aperture (h : AperturesConsistent s) {p : Port} {a : Aperture} (seq : t.seq = s.seq)
    (capacity : t.capacity = s.capacity) (apertures : ∀ q, t.aperture q = if q = p then a else s.aperture q)
    (new : ApertureIn s.capacity p s.seq a) : AperturesConsistent t := by
  refine h.of_alike (.of_eq seq) fun r => ?_
  rw [apertures, capacity]
  split
  · next e => subst e; exact new
  · exact h.at r

theorem AperturesConsistent.modAperture (h : AperturesConsistent s) {p : Port} {f : Aperture → Aperture}
    (new : ApertureIn s.capacity p s.seq (f (s.aperture p))) : AperturesConsistent (s.modAperture p f) :=
  h.of_aperture rfl rfl (fun q => s.modAperture_aperture_eq p q f) new

theorem AperturesConsistent.nonempty (hq : QueuesConsistent s) (h : AperturesConsistent s) {p : Port} {r : OpRecord}
    (hr : s.seq.active = some r) (hf : r.fills p) : 1 ≤ r.range.length :=
  h.fills r (.inl hr) ((hq.kinds r (.inl hr)).2 ⟨p, hf.1⟩)

/-- A write-class or queued operation is no fill. -/
theorem QueuesConsistent.not_fills (hq : QueuesConsistent s) {r : OpRecord} (hr : s.seq.holds r) (hk : r.kind ≠ .fill) (p : Port) :
    ¬ r.fills p := fun hf => hk ((hq.kinds r hr).2 ⟨p, hf.1⟩)

theorem OpKind.ne_fill_of_isWrite {k : OpKind} (h : k.isWrite = true) : k ≠ .fill := by rintro rfl; cases h

theorem AperturesConsistent.restart (h : AperturesConsistent s) {p : Port} {x : ApertureState} {n : Nat}
    (free : (s.aperture p).stalled = false) (place : x = .closed ∧ n = 0 ∨ x = .opened ∧ n ≤ s.capacity)
    (reuse : GenerationNotReused s (s.modAperture p (Aperture.restart x n))) :
    AperturesConsistent (s.modAperture p (Aperture.restart x n)) :=
  h.modAperture ((h.at p).restart free place fun r hr hf hg => by
    have := reuse p r hr hr hf hg
    rwa [State.modAperture_aperture] at this)

/-- The active operation leaves, and it was no fill. -/
theorem AperturesConsistent.of_removed (h : AperturesConsistent s) (other : ∀ r p, s.seq.active = some r → ¬ r.fills p)
    (active : t.seq.active = none) (suspended : t.seq.suspended = s.seq.suspended)
    (apertures : ∀ p, t.aperture p = s.aperture p) (capacity : t.capacity = s.capacity) : AperturesConsistent t := by
  refine h.of_apertures (fun p => ?_) fun r' hr' hk => ?_
  · rw [apertures, capacity]
    exact (h.at p).of_removed (fun r hr => other r p hr) active suspended
  · rcases hr' with hr' | hx
    · rw [active] at hr'; cases hr'
    · exact ⟨r', .inr (suspended ▸ hx), hk, rfl⟩

theorem AperturesConsistent.operationEnds (hq : QueuesConsistent s) (h : AperturesConsistent s) {r : OpRecord}
    (hr : s.seq.active = some r) (hk : r.kind ≠ .fill) (st : Status) (d : Byte) (q : SeqState) (g k : Nat) (b : Bool) :
    AperturesConsistent (s.operationEnds r st d q g k b) := by
  refine h.of_removed (fun r' p hr' => ?_) (by rw [State.operationEnds_seq]) (by rw [State.operationEnds_seq])
    (s.operationEnds_aperture r st d q g k b) ?_
  · obtain rfl := Option.some.inj (hr.symm.trans hr')
    exact hq.not_fills (.inl hr) hk p
  · simp [State.capacity, State.prof, State.operationEnds_profile]

/-- Outside READING the active operation is write-class. -/
theorem QueuesConsistent.write_active (hq : QueuesConsistent s) {r : OpRecord} (hr : s.seq.active = some r)
    (state : s.seq.state ≠ .reading) : r.kind.isWrite = true := by
  have fits := hq.records.active
  rw [hr] at fits
  cases hs : s.seq.state <;> rw [hs] at fits state <;> simp_all [activeFits]

theorem AperturesConsistent.silent (hq : QueuesConsistent s) (h : AperturesConsistent s) (reuse : GenerationNotReused s t)
    (e : Silent s t) : AperturesConsistent t := by
  cases e with
  | same => exact h
  | claimed | released | holdAsked | holdGiven | holdRenewed => exact h.of_frame (.refl _) (fun _ => rfl) rfl
  | stopped | retired => exact h.of_frame (.refl _) (fun q => State.modQueue_aperture_frame ..) rfl
  | flushed =>
    exact h.of_frame (.of_eq (State.flushQueue_seq ..)) (fun q => State.flushQueue_aperture ..)
      (by simp [State.capacity, State.prof, State.flushQueue])
  | closed free => exact h.restart free (.inl ⟨rfl, rfl⟩) reuse
  | stalled state fifo =>
    refine h.of_aperture (by simp [State.beginStall]) (by simp [State.beginStall])
      (fun q => by rw [State.beginStall, State.drive_aperture_frame]; exact s.modAperture_aperture_eq _ q _) ?_
    exact (h.at _).of_stream rfl rfl rfl rfl rfl rfl rfl fun _ => ⟨state, fifo⟩
  | stallEnded =>
    exact h.of_aperture (by simp [State.endStall]) (by simp [State.endStall]) (fun q => s.endStall_aperture _ q _) (h.at _).endStall
  | sequencer move => exact h.of_frame move.alike (fun _ => rfl) rfl
  | timedOut active state =>
    exact h.operationEnds hq active (OpKind.ne_fill_of_isWrite (hq.write_active active (by simp [state]))) ..
  | @committed prof _ _ quiet =>
    obtain ⟨state, suspended, -⟩ := (s.quietForCommit_iff).1 quiet
    have active : s.seq.active = none := by
      have fits := hq.records.active
      cases hs : s.seq.state <;> rw [hs] at fits state <;> first | exact fits | cases state
    refine h.of_alike ?_ fun p => ?_
    · rw [State.callLine_seq, State.setSeqState_seq, State.profileTaken_seq]; exact ⟨rfl, rfl⟩
    · change ApertureIn _ p s.seq ((s.profileTaken prof).aperture p)
      have timer : (if (s.aperture p).stalled then none else (s.aperture p).stallTimer) = none := by
        have := (h.shape p).timer
        cases hs : (s.aperture p).stalled <;> simp_all
      rw [State.profileTaken_aperture, timer]
      exact (h.at p).endStall.restart rfl (.inl ⟨rfl, rfl⟩) fun r hr => by rw [active] at hr; cases hr
  | poweredOn =>
    have noActive (r : OpRecord) : State.reset.seq.active = some r → False := fun hr => by cases hr
    have noRecord (r : OpRecord) : State.reset.seq.holds r → False := by
      rintro (hr | ⟨x, hx, -⟩)
      · exact noActive r hr
      · cases hx
    have shape : ApertureShape .reset := ⟨rfl, by simp [Aperture.reset], fun _ => ⟨rfl, rfl⟩, nofun, nofun, rfl⟩
    refine (aperturesConsistent_iff _).2 ⟨fun p => ?_, ?_⟩
    · have reset : State.reset.aperture p = .reset := by cases p <;> rfl
      rw [reset]
      refine ⟨shape, Nat.zero_le _, nofun, ?_, fun r hr => (noActive r hr).elim, fun r x hr => (noRecord r hr).elim⟩
      simp only [Aperture.reset, Bool.false_eq_true, false_iff]
      rintro ⟨r, hr, -⟩
      exact noActive r hr
    · exact fun r hr => (noRecord r hr).elim

theorem AperturesConsistent.bringing (hq : QueuesConsistent s) (h : AperturesConsistent s) (reuse : GenerationNotReused s t)
    (e : Bringing s t) : AperturesConsistent t := by
  cases e with
  | enqueued =>
    exact h.of_frame (.of_eq (by simp)) (fun q => State.enqueue_aperture ..)
      (by unfold State.enqueue; simp only; split <;> simp)
  | started => exact h.of_frame (.refl _) (fun q => State.modQueue_aperture_frame ..) rfl
  | opened below free => exact h.restart free (.inr ⟨rfl, Nat.le_of_lt below⟩) reuse
  | byteTaken byte => exact h.modAperture ((h.at _).takeByte byte fun r hr hf => h.nonempty hq hr hf)
  | holdEnded => exact h.of_frame (.refl _) (fun _ => rfl) rfl
  | @portReset p =>
    refine h.of_apertures (fun q => ?_) fun r' hr' hk => ?_
    · have capacity : (s.portReset p).capacity = s.capacity := by
        simp only [State.capacity, State.prof, State.portReset_committed]
      rw [State.portReset_aperture, State.portReset_seq, capacity]
      split
      · next e => subst e; exact .portReset_own ..
      · next e => exact (h.at q).portReset_other e
    · rw [State.portReset_seq] at hr'
      obtain ⟨r, hr, rfl⟩ := (Sequencer.orphanFor_holds ..).1 hr'
      obtain ⟨-, hk', hrange, -⟩ := r.orphanFor_frame p
      exact ⟨r, hr, hk' ▸ hk, hrange.symm⟩
  | sequencer move => exact h.of_frame move.alike (fun _ => rfl) rfl
  | @operationEnded r _ _ _ _ _ active kind =>
    refine h.operationEnds hq active ?_ ..
    by_cases hs : s.seq.state = .reading
    · exact kind hs
    · exact OpKind.ne_fill_of_isWrite (hq.write_active active hs)
  | @fillEnded r data g active kind size =>
    obtain ⟨p, hp⟩ := (hq.kinds r (.inl active)).1 kind
    have port : r.source.port = p := by rw [hp]; rfl
    have seq := State.fillEnds_seq s r data g
    have capacity : (s.fillEnds r data g).capacity = s.capacity := by
      simp only [State.capacity, State.prof, State.fillEnds_profile]
    refine h.of_apertures (fun q => ?_) fun r' hr' hk => ?_
    · rw [State.fillEnds_aperture, capacity]
      split
      · next e =>
        obtain ⟨ho, rfl⟩ := e
        rw [port]
        exact (h.at p).arrival active ⟨hp, ho⟩ size (h.fills r (.inl active) kind)
          (fun x hx => hq.records.apart x r hx active) (by rw [seq]) (by rw [seq])
      · next e =>
        refine (h.at q).of_removed (fun r' hr' hf => e ?_) (by rw [seq]) (by rw [seq])
        obtain rfl := Option.some.inj (active.symm.trans hr')
        exact ⟨hf.2, by rw [hf.1]; rfl⟩
    · rw [seq] at hr'
      rcases hr' with hr' | hx
      · cases hr'
      · exact ⟨r', .inr hx, hk, rfl⟩
  | @operationParked r g n k active state =>
    have write := hq.write_active active (by simp [state])
    have none (p : Port) := hq.not_fills (.inl active) (OpKind.ne_fill_of_isWrite write) p
    refine h.of_apertures (fun p => (h.at p).of_records (fun r' hr' => ?_) (fun r' hr' hf => ?_) fun r' hr' hw => ?_)
      fun r' hr' hk => ?_
    · cases hr'
    · obtain rfl := Option.some.inj (active.symm.trans hr')
      exact absurd hf (none p)
    · rcases hr' with hr' | ⟨x, hx, rfl⟩
      · cases hr'
      · obtain rfl := Option.some.inj hx
        exact ⟨r, .inl active, write, rfl⟩
    · rcases hr' with hr' | ⟨x, hx, rfl⟩
      · cases hr'
      · obtain rfl := Option.some.inj hx
        exact ⟨r, .inl active, hk, rfl⟩

/-- An offered fill is of at least one byte and fits its aperture (R66). -/
theorem State.fillRecord_fits {s : State} {p : Port} (offered : s.offers (.fill p) = true) :
    1 ≤ (s.fillRecord p).range.length ∧ FillFits (s.aperture p) (s.fillRecord p).range s.capacity := by
  simp only [State.offers, State.fillExists, Bool.and_eq_true, decide_eq_true_eq] at offered
  obtain ⟨⟨⟨⟨⟨state, room⟩, -⟩, below⟩, -⟩, clear⟩ := offered
  have bounds : 1 ≤ s.fillLength p ∧ (s.aperture p).fifo.length + s.fillLength p ≤ 16
      ∧ (s.aperture p).fetch + s.fillLength p ≤ s.capacity := by
    have sector : (s.aperture p).fetch % 4096 < 4096 := Nat.mod_lt _ (by decide)
    unfold State.fillLength
    simp only
    split
    · split <;> omega
    · omega
  exact ⟨bounds.1, state, rfl, bounds.2.1, bounds.2.2⟩

theorem AperturesConsistent.granted (hq : QueuesConsistent s) (h : AperturesConsistent s) (idle : s.seq.state = .idle)
    (g : Granted s t) : AperturesConsistent t := by
  have none := hq.idle_active idle
  cases g with
  | @fillDenied p =>
    refine h.of_alike (.of_eq (by simp)) fun q => ?_
    rw [State.denyFill_aperture]
    simp only [State.denyFill_frame]
    split
    · next e => subst e; exact (h.at q).denied none
    · exact h.at q
  | @fillStarted p offered =>
    have seq := State.startFill_seq s p
    have own : (s.fillRecord p).fills p := ⟨rfl, rfl⟩
    obtain ⟨nonempty, fits⟩ := s.fillRecord_fits offered
    refine (aperturesConsistent_iff _).2 ⟨fun q => ?_, ?_⟩
    · have aperture : (s.startFill p).aperture q = if q = p then { s.aperture p with inFlight := true } else s.aperture q := by
        simp only [State.startFill, State.startOperation_frame]; exact s.modAperture_aperture_eq p q _
      have capacity : (s.startFill p).capacity = s.capacity := by simp [State.startFill]
      rw [aperture, capacity]
      split
      · next e =>
        subst e
        exact (h.at q).filled (by rw [seq]) (by rw [seq]) own rfl fits
      · next e =>
        refine (h.at q).of_records (fun r hr hf => ?_) (fun r hr => ?_) fun r hr hw => ?_
        · rw [seq] at hr
          obtain rfl := Option.some.inj hr
          exact absurd hf.1 (by simp [State.fillRecord, Ne.symm e])
        · rw [none] at hr; cases hr
        · rw [seq] at hr
          rcases hr with hr | hx
          · obtain rfl := Option.some.inj hr; cases hw
          · exact ⟨r, .inr hx, hw, rfl⟩
    · rw [seq]
      rintro r (hr | hx) hk
      · obtain rfl := Option.some.inj hr; exact nonempty
      · exact h.fills r (.inr hx) hk
  | headDenied => exact h.of_frame (.of_eq (by simp)) (fun _ => by simp) (by simp)
  | @headStarted p op =>
    have seq := State.startHead_seq s p op
    have other (q : Port) : ¬ (s.headRecord p op).fills q := by rintro ⟨hs, -⟩; cases hs
    have capacity : (s.startHead p op).capacity = s.capacity := by
      simp only [State.startHead]; split <;> simp
    refine h.of_apertures (fun q => ?_) fun r hr hk => ?_
    · rw [State.startHead_aperture, capacity, seq]
      split
      · exact (h.at q).purge (r := s.headRecord p op) none rfl rfl (other q)
      · next read =>
        refine (h.at q).of_records (fun r hr hf => ?_) (fun r hr => ?_) fun r hr hw => ?_
        · obtain rfl := Option.some.inj hr
          exact absurd hf (other q)
        · rw [none] at hr; cases hr
        · rcases hr with hr | hx
          · obtain rfl := Option.some.inj hr
            exact absurd hw read
          · exact ⟨r, .inr hx, hw, rfl⟩
    · rw [seq] at hr
      rcases hr with hr | hx
      · obtain rfl := Option.some.inj hr; cases hk
      · exact ⟨r, .inr hx, hk, rfl⟩
  | @resumed x record =>
    have write := hq.records.write x record
    have notFill (p : Port) := hq.not_fills (.inr ⟨x, record, rfl⟩) (OpKind.ne_fill_of_isWrite write) p
    refine h.of_apertures (fun p => (h.at p).of_records (fun r' hr' hf => ?_) (fun r' hr' => ?_) fun r' hr' hw => ?_)
      fun r' hr' hk => ?_
    · obtain rfl := Option.some.inj hr'
      exact absurd hf (notFill p)
    · rw [none] at hr'; cases hr'
    · rcases hr' with hr' | ⟨y, hy, rfl⟩
      · obtain rfl := Option.some.inj hr'
        exact ⟨x.op, .inr ⟨x, record, rfl⟩, write, rfl⟩
      · cases hy
    · rcases hr' with hr' | ⟨y, hy, rfl⟩
      · obtain rfl := Option.some.inj hr'
        exact ⟨x.op, .inr ⟨x, record, rfl⟩, hk, rfl⟩
      · cases hy

end

end Sys2Proof.Machine
end

section
/-! SUPPORT. O57: the apertures' invariant over a row and a step; where the active fill stays, its generation is of before. -/

namespace Sys2Proof.Machine

section
variable {s t u v w : State}

theorem AperturesConsistent.of_core (e : t.core = s.core) (h : AperturesConsistent s) : AperturesConsistent t := by
  have capacity : t.capacity = s.capacity := congrArg (fun x => x.capacity) e
  refine h.of_alike (.of_eq (State.seq_of_core e)) fun p => ?_
  have stream : (t.aperture p).stream = (s.aperture p).stream := by
    rw [← State.core_aperture, ← State.core_aperture, e]
  have field {α : Type} (f : Aperture → α) (hf : ∀ a, f a.stream = f a) : f (t.aperture p) = f (s.aperture p) := by
    rw [← hf, stream, hf]
  have timer : (t.aperture p).stallTimer = (s.aperture p).stallTimer := field Aperture.stallTimer fun _ => rfl
  have stalled : (t.aperture p).stalled = (s.aperture p).stalled := field Aperture.stalled fun _ => rfl
  rw [capacity]
  exact (h.at p).of_stream (field Aperture.state fun _ => rfl) (field Aperture.current fun _ => rfl)
    (field Aperture.fetch fun _ => rfl) (field Aperture.fifo fun _ => rfl) (field Aperture.generation fun _ => rfl)
    (field Aperture.inFlight fun _ => rfl) (by rw [timer, stalled]; exact (h.shape p).timer)
    (by rw [stalled]; exact (h.shape p).stalled)

theorem AperturesConsistent.elapse (h : AperturesConsistent s) (d : Nat) : AperturesConsistent (s.elapse d) := by
  refine h.of_alike (.elapse d _) fun p => ?_
  rw [State.elapse_aperture_eq]
  refine (h.at p).of_stream rfl rfl rfl rfl rfl rfl ?_ (h.shape p).stalled
  rw [show ∀ x : Timer, (elapseTimer d x).isSome = x.isSome from fun x => by cases x <;> rfl]
  exact (h.shape p).timer

theorem AperturesConsistent.passed (h : AperturesConsistent s) (hw : Passed s w) : AperturesConsistent w := by
  rcases hw with e | ⟨d, e⟩
  · exact h.of_core e
  · exact (h.elapse d).of_core e

/-! ### The arbiter -/

theorem AperturesConsistent.grantPoint (hq : QueuesConsistent s) (h : AperturesConsistent s) :
    AperturesConsistent s.grantPoint := by
  suffices QueuesConsistent s.grantPoint ∧ AperturesConsistent s.grantPoint from this.2
  refine grantRepeat_induct (P := fun s => QueuesConsistent s ∧ AperturesConsistent s) (fun t c ⟨hq, h⟩ hi hc => ?_) 19 s ⟨hq, h⟩
  obtain ⟨w, hw, hs, hg⟩ := State.grant_granted (State.offers_of_choose hc)
  have idle : w.seq.state = .idle := by rw [hs]; exact hi
  have hqw := QueuesConsistent.kept.core hw hq
  exact ⟨hqw.granted idle hg, (h.of_core hw).granted hqw idle hg⟩

/-- The suspend request changes no record, aperture or capacity (R74). -/
theorem State.evaluateSuspend_alike (s : State) :
    s.seq.Alike s.evaluateSuspend.seq ∧ s.evaluateSuspend.seq.active = s.seq.active
      ∧ (∀ p, s.evaluateSuspend.aperture p = s.aperture p) ∧ s.evaluateSuspend.capacity = s.capacity := by
  rcases s.evaluateSuspend_cases with e | ⟨hs, -, hp, e⟩ | ⟨hs, -, hp, e⟩ <;> rw [e]
  · exact ⟨.refl _, rfl, fun _ => rfl, rfl⟩
  · exact ⟨.refl _, rfl, fun _ => rfl, rfl⟩
  · exact ⟨⟨rfl, rfl⟩, rfl, fun _ => rfl, rfl⟩

theorem AperturesConsistent.consider (hq : QueuesConsistent s) (h : AperturesConsistent s) : AperturesConsistent s.consider := by
  unfold State.consider
  split
  · exact AperturesConsistent.grantPoint hq h
  · obtain ⟨alike, -, apertures, capacity⟩ := s.evaluateSuspend_alike
    exact h.of_frame alike apertures capacity

/-! ### The generation of the active fill -/

/-- A fill in the active record was there before the time that passed. -/
theorem Passed.active_fill (hq : QueuesConsistent s) (hw : Passed s w) {r : OpRecord} (hr : w.seq.active = some r)
    (hk : r.kind = .fill) : s.seq.active = some r := by
  rcases hw with e | ⟨d, e⟩
  · rwa [State.seq_of_core e] at hr
  · rw [State.seq_of_core e] at hr
    change (s.seq.elapse d).active = some r at hr
    simp only [Sequencer.elapse] at hr
    split at hr
    · next acc =>
      obtain ⟨r0, h0, rfl⟩ := Option.map_eq_some_iff.1 hr
      have := hq.write_active h0 fun e => by rw [e] at acc; exact Bool.noConfusion acc
      rw [show r0.kind = .fill from hk] at this
      cases this
    · exact hr

theorem Passed.generation (hw : Passed s w) (p : Port) : (w.aperture p).generation = (s.aperture p).generation := by
  rcases hw with e | ⟨d, e⟩
  · exact State.generation_of_core e p
  · rw [State.generation_of_core e, State.elapse_aperture_eq]

/-- Beside an active record the arbiter grants nothing. -/
theorem State.consider_of_active (hq : QueuesConsistent s) {r : OpRecord} (hr : s.seq.active = some r) :
    s.consider.seq.active = some r ∧ ∀ p, s.consider.aperture p = s.aperture p := by
  have busy : s.seq.state ≠ .idle := fun hi => by rw [hq.idle_active hi] at hr; cases hr
  obtain ⟨-, active, apertures, -⟩ := s.evaluateSuspend_alike
  rw [State.consider_of_busy busy]
  exact ⟨active.trans hr, apertures⟩

/-- What the event of a row may not reuse, the row did not (R102). -/
theorem GenerationNotReused.event (hq : QueuesConsistent s) (h : GenerationNotReused s t) (start : Passed s w)
    (active : ∀ r, u.seq.active = some r → t.seq.active = some r ∧ ∀ p, (t.aperture p).generation = (u.aperture p).generation)
    (kinds : QueuesConsistent w) : GenerationNotReused w u := by
  intro p r hw hu hf hg
  have fill := (kinds.kinds r (.inl hw)).2 ⟨p, hf.1⟩
  obtain ⟨ht, generation⟩ := active r hu
  rw [← generation p]
  rw [start.generation p] at hg
  exact h p r (start.active_fill hq hw fill) ht hf hg

theorem AperturesConsistent.row (hq : QueuesConsistent s) (h : AperturesConsistent s) (reuse : GenerationNotReused s t)
    (row : Row s t) : AperturesConsistent t := by
  cases row with
  | @silent w u start event result =>
    have hqw := QueuesConsistent.kept.passed hq start
    refine ((h.passed start).silent hqw (reuse.event hq start (fun r hr => ⟨?_, fun p => ?_⟩) hqw) event).of_core result
    · rwa [State.seq_of_core result]
    · exact State.generation_of_core result p
  | @considered w u v start event considers result =>
    have hqw := QueuesConsistent.kept.passed hq start
    have hqv : QueuesConsistent v :=
      QueuesConsistent.kept.core considers (event.elim hqw.silent hqw.bringing)
    have reuse : GenerationNotReused w u := by
      refine reuse.event hq start (fun r hr => ?_) hqw
      obtain ⟨active, apertures⟩ := State.consider_of_active (s := v) hqv (r := r) (by rwa [State.seq_of_core considers])
      refine ⟨by rwa [State.seq_of_core result], fun p => ?_⟩
      rw [State.generation_of_core result, apertures, State.generation_of_core considers]
    have hu : AperturesConsistent u :=
      event.elim ((h.passed start).silent hqw reuse) ((h.passed start).bringing hqw reuse)
    exact (AperturesConsistent.consider hqv (hu.of_core considers)).of_core result

end

/-- Settles O57: every event, grant and passing of time, aperture by aperture; only OPEN and CLOSE move the generation of a
port whose fill stays active. -/
theorem aperturesStayConsistent : Obligations.AperturesStayConsistent := by
  unfold Obligations.AperturesStayConsistent
  exact fun s t hq h reuse hstep => h.row hq reuse (step_row hstep)

end Sys2Proof.Machine
end

section
/-! SUPPORT. O51: a grant point ends (R58, R72). A denial leaves fewer candidates that can be denied, at most 18 of them. -/

namespace Sys2Proof.Machine

/-! ### What can still be denied -/

/-- The number of QUEUED slots. -/
def Queue.queuedCount (q : Queue) : Nat := (Finset.univ.filter fun n : Fin 8 => q.slots[n].isQueued = true).card

/-- The slots and the aperture of a port that a denial can still end. -/
def State.deniableOf (s : State) (p : Port) : Nat :=
  (s.queue p).queuedCount + if (s.aperture p).state = .opened then 1 else 0

/-- The slots and apertures that a denial can still end. -/
def State.deniable (s : State) : Nat := s.deniableOf .A + s.deniableOf .B

section
variable {s t : State}

theorem State.deniableOf_le (s : State) (p : Port) : s.deniableOf p ≤ 9 := by
  have count : (s.queue p).queuedCount ≤ 8 := by
    refine (Finset.card_filter_le _ _).trans ?_
    simp
  unfold State.deniableOf
  split <;> omega

theorem State.deniable_le (s : State) : s.deniable ≤ 18 := by
  have := s.deniableOf_le .A
  have := s.deniableOf_le .B
  unfold State.deniable
  omega

theorem State.deniable_lt {p : Port} (own : t.deniableOf p < s.deniableOf p) (peer : t.deniableOf p.peer = s.deniableOf p.peer) :
    t.deniable < s.deniable := by
  unfold State.deniable
  cases p <;> simp only [Port.peer] at peer <;> omega

theorem State.deniable_of_core (e : t.core = s.core) : t.deniable = s.deniable := by
  have port (p : Port) : t.deniableOf p = s.deniableOf p := by
    have queue : (t.queue p).ring = (s.queue p).ring := by rw [← State.core_queue, ← State.core_queue, e]
    have stream : (t.aperture p).stream = (s.aperture p).stream := by rw [← State.core_aperture, ← State.core_aperture, e]
    have slots : (t.queue p).slots = (s.queue p).slots := congrArg (fun x => x.slots) queue
    have state : (t.aperture p).state = (s.aperture p).state := congrArg (fun x => x.state) stream
    simp only [State.deniableOf, Queue.queuedCount, slots, state]
  simp only [State.deniable, port]

/-- A QUEUED slot that is DONE is one fewer. -/
theorem Queue.queuedCount_lt {q q' : Queue} {n : Fin 8} (queued : q.slots[n].isQueued = true)
    (done : q'.slots[n].isQueued = false) (others : ∀ m : Fin 8, m ≠ n → q'.slots[m].isQueued = q.slots[m].isQueued) :
    q'.queuedCount < q.queuedCount := by
  refine Finset.card_lt_card ⟨fun m hm => ?_, fun h => ?_⟩
  · rw [Finset.mem_filter] at hm ⊢
    have hne : m ≠ n := by rintro rfl; rw [done] at hm; exact absurd hm.2 (by simp)
    exact ⟨hm.1, (others m hne).symm.trans hm.2⟩
  · have := Finset.mem_filter.1 (h (Finset.mem_filter.2 ⟨Finset.mem_univ n, queued⟩))
    rw [done] at this
    exact absurd this.2 (by simp)

/-! ### A grant -/

/-- A grant leaves IDLE, or denies and leaves fewer that can be denied (R72). -/
theorem Granted.leaves_idle_or_denies (g : Granted s t) : t.seq.state ≠ .idle ∨ t.deniable < s.deniable := by
  cases g with
  | @fillDenied p offered =>
    right
    simp only [State.offers, State.fillExists, Bool.and_eq_true, decide_eq_true_eq] at offered
    have opened := offered.1.1.1.1.1
    refine State.deniable_lt (p := p) ?_ ?_
    · simp only [State.deniableOf, State.denyFill_frame, State.denyFill_aperture, if_true, opened]
      simp
    · simp [State.deniableOf, State.denyFill_aperture]
  | fillStarted => left; rw [State.startFill_seq]; simp
  | @headDenied p op d head =>
    right
    obtain ⟨-, -, hs⟩ := Queue.head_eq_some head
    refine State.deniable_lt (p := p) ?_ ?_
    · have count : ((s.denyHead p d).queue p).queuedCount < (s.queue p).queuedCount := by
        rw [State.denyHead_queue hs, if_pos rfl]
        refine Queue.queuedCount_lt (n := (s.queue p).start) (by rw [hs]; rfl) ?_ fun m hm => ?_
        · change (((s.queue p).setSlot (s.queue p).start _).slots[(s.queue p).start]).isQueued = false
          rw [Queue.setSlot_slots, if_pos rfl]; rfl
        · change (((s.queue p).setSlot (s.queue p).start _).slots[m]).isQueued = _
          rw [Queue.setSlot_slots, if_neg hm]
      simp only [State.deniableOf, State.denyHead_frame]
      omega
    · simp [State.deniableOf, State.denyHead_queue hs]
  | headStarted => left; rw [State.startHead_seq]; simp only; split <;> simp
  | resumed => left; simp [State.takeBack, State.withSeq]

theorem State.grant_leaves_idle_or_denies {c : Candidate} (hc : s.choose = some c) :
    (s.grant c).seq.state ≠ .idle ∨ (s.grant c).deniable < s.deniable := by
  obtain ⟨w, core, -, g⟩ := State.grant_granted (State.offers_of_choose hc)
  rw [← State.deniable_of_core core]
  exact g.leaves_idle_or_denies

/-! ### The repetition -/

theorem grantRepeat_of_busy (n : Nat) (h : s.seq.state ≠ .idle) : grantRepeat n s = s := by
  cases n <;> simp [grantRepeat, h]

theorem grantRepeat_of_none (n : Nat) (h : s.choose = none) : grantRepeat n s = s := by
  cases n <;> simp [grantRepeat, h]

theorem grantRepeat_succ (n : Nat) {c : Candidate} (hi : s.seq.state = .idle) (hc : s.choose = some c) :
    grantRepeat (n + 1) s = grantRepeat n (s.grant c) := by simp [grantRepeat, hi, hc]

/-- More repetitions than there is to deny, and one more, change nothing. -/
theorem grantRepeat_stable (n : Nat) (s : State) (h : s.deniable < n) : grantRepeat (n + 1) s = grantRepeat n s := by
  induction n generalizing s with
  | zero => omega
  | succ n ih =>
    by_cases hi : s.seq.state = .idle
    · cases hc : s.choose with
      | none => rw [grantRepeat_of_none _ hc, grantRepeat_of_none _ hc]
      | some c =>
        rw [grantRepeat_succ _ hi hc, grantRepeat_succ _ hi hc]
        rcases State.grant_leaves_idle_or_denies hc with hb | hlt
        · rw [grantRepeat_of_busy _ hb, grantRepeat_of_busy _ hb]
        · exact ih _ (by omega)
    · rw [grantRepeat_of_busy _ hi, grantRepeat_of_busy _ hi]

theorem grantRepeat_eq_grantPoint (s : State) {n : Nat} (h : 19 ≤ n) : grantRepeat n s = s.grantPoint := by
  induction n, h using Nat.le_induction with
  | base => rfl
  | succ n hn ih =>
    have := s.deniable_le
    rw [grantRepeat_stable n s (by omega), ih]

theorem State.grantPoint_of_busy (h : s.seq.state ≠ .idle) : s.grantPoint = s := grantRepeat_of_busy 19 h
theorem State.grantPoint_of_none (h : s.choose = none) : s.grantPoint = s := grantRepeat_of_none 19 h

theorem State.grantPoint_of_some {c : Candidate} (hi : s.seq.state = .idle) (hc : s.choose = some c) :
    s.grantPoint = (s.grant c).grantPoint := by
  rw [← grantRepeat_eq_grantPoint s (show 19 ≤ 20 by omega), grantRepeat_succ _ hi hc]
  rfl

/-- What is left in IDLE has nothing to choose. -/
theorem grantRepeat_choose (n : Nat) (s : State) (h : s.deniable < n) (hi : (grantRepeat n s).seq.state = .idle) :
    (grantRepeat n s).choose = none := by
  induction n generalizing s with
  | zero => omega
  | succ n ih =>
    by_cases hs : s.seq.state = .idle
    · cases hc : s.choose with
      | none => rw [grantRepeat_of_none _ hc, hc]
      | some c =>
        rw [grantRepeat_succ _ hs hc] at hi ⊢
        rcases State.grant_leaves_idle_or_denies hc with hb | hlt
        · rw [grantRepeat_of_busy _ hb] at hi; exact absurd hi hb
        · exact ih _ (by omega) hi
    · rw [grantRepeat_of_busy _ hs] at hi; exact absurd hi hs

theorem State.grantPoint_choose (s : State) (hi : s.grantPoint.seq.state = .idle) : s.grantPoint.choose = none :=
  grantRepeat_choose 19 s (by have := s.deniable_le; omega) hi

/-! ### The grant order -/

/-- Every candidate stands in the grant order, the resume whatever resume-due (R67). -/
theorem State.mem_grantOrder (s : State) (c : Candidate) : c ∈ s.grantOrder := by
  have either (r p : Port) : p = r ∨ p = r.peer := by cases r <;> cases p <;> simp [Port.peer]
  unfold State.grantOrder
  cases c with
  | resume => simp
  | fill p => rcases either s.arbiter.readPointer p with e | e <;> simp [e]
  | readHead p => rcases either s.arbiter.readPointer p with e | e <;> simp [e]
  | writeHead p => rcases either s.arbiter.writePointer p with e | e <;> simp [e]

theorem State.choose_eq_none_iff (s : State) : s.choose = none ↔ ∀ c, s.offers c = false := by
  unfold State.choose
  rw [List.find?_eq_none]
  constructor
  · intro h c; simpa using h c (s.mem_grantOrder c)
  · intro h c _; simp [h c]

end

/-- Settles O51: each denial leaves one fewer slot or aperture that can be denied, so the repetition's bound is never reached. -/
theorem grantPointEnds : Obligations.GrantPointEnds := by
  unfold Obligations.GrantPointEnds
  intro s
  refine ⟨State.grantPoint_of_busy, State.grantPoint_of_none, fun c => State.grantPoint_of_some, fun hi => ?_,
    fun n => grantRepeat_eq_grantPoint s, rfl, State.consider_of_idle, State.consider_of_busy⟩
  exact (State.choose_eq_none_iff _).1 (s.grantPoint_choose hi)

end Sys2Proof.Machine
end

section
/-! SUPPORT. O58: no step rests in IDLE beside an eligible candidate (R58, R62). -/

namespace Sys2Proof.Machine

section
variable {s t u v w : State}

/-! ### When no candidate is new -/

/-- What the offers read of the records. -/
theorem State.clearOfWrites_congr (active : t.seq.active = s.seq.active)
    (suspended : t.seq.suspended.map Suspended.op = s.seq.suspended.map Suspended.op) (f : Range → Bool) :
    t.clearOfWrites f = s.clearOfWrites f := by
  have range : t.suspendedRange = s.suspendedRange := by
    have := congrArg (Option.map OpRecord.range) suspended
    rw [Option.map_map, Option.map_map] at this
    exact this
  simp only [State.clearOfWrites, State.activeWriteRange, active, range]

/-- No queue head, fill or freedom from the peer's hold is new. -/
theorem State.offers_mono (active : t.seq.active = s.seq.active)
    (suspended : t.seq.suspended.map Suspended.op = s.seq.suspended.map Suspended.op)
    (heads : ∀ p op, (t.queue p).head = some op → (s.queue p).head = some op)
    (blocked : ∀ p, s.blockedByHold p = true → t.blockedByHold p = true)
    (fills : ∀ p, t.fillExists p = true → s.fillExists p = true ∧ (t.aperture p).fetch = (s.aperture p).fetch)
    {c : Candidate} (h : t.offers c = true) : s.offers c = true := by
  have free {p : Port} (hb : t.blockedByHold p = false) : s.blockedByHold p = false := by
    cases hs : s.blockedByHold p
    · rfl
    · exact absurd (hb.symm.trans (blocked p hs)) (by simp)
  have isSome : t.seq.suspended.isSome = s.seq.suspended.isSome := by
    have := congrArg Option.isSome suspended
    simpa only [Option.isSome_map] using this
  have clear := State.clearOfWrites_congr active suspended
  cases c with
  | resume => exact isSome.symm.trans h
  | fill p =>
    simp only [State.offers, Bool.and_eq_true, Bool.not_eq_true'] at h ⊢
    obtain ⟨⟨hf, hb⟩, hc⟩ := h
    obtain ⟨hf, e⟩ := fills p hf
    exact ⟨⟨hf, free hb⟩, by rwa [e, clear] at hc⟩
  | readHead p =>
    cases hop : (t.queue p).head with
    | none => simp [State.offers, hop] at h
    | some op =>
      simp only [State.offers, hop, heads p op hop, Bool.and_eq_true, Bool.not_eq_true', clear] at h ⊢
      exact ⟨⟨h.1.1, free h.1.2⟩, h.2⟩
  | writeHead p =>
    cases hop : (t.queue p).head with
    | none => simp [State.offers, hop] at h
    | some op =>
      have isNone : t.seq.suspended.isNone = s.seq.suspended.isNone := by
        rw [← Option.not_isSome, ← Option.not_isSome, isSome]
      simp only [State.offers, hop, heads p op hop, Bool.and_eq_true, Bool.not_eq_true', isNone] at h ⊢
      exact ⟨⟨h.1.1, free h.1.2⟩, h.2⟩

/-- A state in which no candidate is new, and which is IDLE only after IDLE. -/
theorem WorkConserving.of_parts (h : WorkConserving s)
    (records : t.seq.state = .idle → s.seq.state = .idle ∧ t.seq.active = s.seq.active
      ∧ t.seq.suspended.map Suspended.op = s.seq.suspended.map Suspended.op)
    (heads : ∀ p op, (t.queue p).head = some op → (s.queue p).head = some op)
    (blocked : ∀ p, s.blockedByHold p = true → t.blockedByHold p = true)
    (fills : ∀ p, t.fillExists p = true → s.fillExists p = true ∧ (t.aperture p).fetch = (s.aperture p).fetch) :
    WorkConserving t := by
  intro hi
  obtain ⟨hs, active, suspended⟩ := records hi
  have none := (State.choose_eq_none_iff s).1 (h hs)
  refine (State.choose_eq_none_iff t).2 fun c => ?_
  cases ht : t.offers c
  · rfl
  · exact absurd ((none c).symm.trans (State.offers_mono active suspended heads blocked fills ht)) (by simp)

theorem WorkConserving.of_busy (h : t.seq.state ≠ .idle) : WorkConserving t := fun hi => absurd hi h

/-- Only a queue changes, and no head is new. -/
theorem WorkConserving.of_heads (h : WorkConserving s) (seq : t.seq = s.seq) (hold : ∀ p, t.holdOf p = s.holdOf p)
    (apertures : ∀ p, t.aperture p = s.aperture p) (capacity : t.capacity = s.capacity)
    (heads : ∀ p op, (t.queue p).head = some op → (s.queue p).head = some op) : WorkConserving t :=
  h.of_parts (fun hi => ⟨by rwa [seq] at hi, by rw [seq], by rw [seq]⟩) heads
    (fun p => by simp only [State.blockedByHold, hold, imp_self])
    fun p hp => ⟨by simpa only [State.fillExists, apertures, capacity] using hp, by rw [apertures]⟩

/-- Nothing changes that the offers read of an aperture. -/
theorem WorkConserving.of_fields (h : WorkConserving s) (seq : t.seq = s.seq) (hold : ∀ p, t.holdOf p = s.holdOf p)
    (queues : ∀ p, t.queue p = s.queue p) (capacity : t.capacity = s.capacity)
    (apertures : ∀ p, (t.aperture p).state = (s.aperture p).state ∧ (t.aperture p).fifo = (s.aperture p).fifo
      ∧ (t.aperture p).inFlight = (s.aperture p).inFlight ∧ (t.aperture p).fetch = (s.aperture p).fetch) : WorkConserving t := by
  refine h.of_parts (fun hi => ⟨by rwa [seq] at hi, by rw [seq], by rw [seq]⟩)
    (fun p op => by rw [queues]; exact id) (fun p => by simp only [State.blockedByHold, hold, imp_self]) fun p hf => ?_
  obtain ⟨state, fifo, inFlight, fetch⟩ := apertures p
  exact ⟨by simpa only [State.fillExists, state, fifo, inFlight, fetch, capacity] using hf, fetch⟩

theorem Queue.head_of_not_running {q : Queue} (h : q.state ≠ .running) : q.head = none := by
  simp [Queue.head, h]

/-- A head is the QUEUED slot at the start index of a running ring with no ACTIVE slot. -/
theorem Queue.head_eq_some_iff (q : Queue) (op : SlotOp) :
    q.head = some op ↔ q.state = .running ∧ q.hasActive = false ∧ q.slots[q.start] = .queued op := by
  refine ⟨Queue.head_eq_some, fun ⟨hr, ha, hs⟩ => ?_⟩
  unfold Queue.head
  rw [if_pos (by simp [hr, ha]), hs]

/-- Retiring a DONE slot brings no new head. -/
theorem Queue.head_retired {q : Queue} (done : q.slots[q.retire].isDone = true) {op : SlotOp}
    (h : ({ q.setSlot q.retire .free with retire := q.retire + 1 } : Queue).head = some op) : q.head = some op := by
  obtain ⟨hr, ha, hs⟩ := Queue.head_eq_some h
  refine (q.head_eq_some_iff op).2 ⟨hr, (Queue.hasActive_eq_false q).2 fun n => ?_, ?_⟩
  · rw [← (Queue.hasActive_eq_false _).1 ha n]
    refine (Queue.setSlot_isActive ?_ n).symm
    cases hx : q.slots[q.retire] <;> rw [hx] at done <;> first | rfl | exact Bool.noConfusion done
  · change (q.setSlot q.retire .free).slots[q.start] = _ at hs
    rw [Queue.setSlot_slots] at hs
    split at hs
    · cases hs
    · exact hs

/-! ### A row -/

theorem WorkConserving.of_core (e : t.core = s.core) (h : WorkConserving s) : WorkConserving t := by
  have seq := State.seq_of_core e
  have ring (p : Port) : (t.queue p).ring = (s.queue p).ring := by rw [← State.core_queue, ← State.core_queue, e]
  have stream (p : Port) : (t.aperture p).stream = (s.aperture p).stream := by
    rw [← State.core_aperture, ← State.core_aperture, e]
  have capacity : t.capacity = s.capacity := congrArg (fun x => x.capacity) e
  have field {α : Type} (p : Port) (f : Aperture → α) (hf : ∀ a, f a.stream = f a) : f (t.aperture p) = f (s.aperture p) := by
    rw [← hf, stream, hf]
  refine h.of_parts (fun hi => ⟨by rwa [seq] at hi, by rw [seq], by rw [seq]⟩) (fun p op ho => ?_)
    (fun p hb => ?_) fun p hf => ⟨?_, field p Aperture.fetch fun _ => rfl⟩
  · change (s.queue p).ring.head = some op
    rw [← ring]; exact ho
  · rw [← hb]
    exact congrArg (fun x => x.blockedByHold p) e
  · simpa only [State.fillExists, capacity, field p Aperture.state fun _ => rfl, field p Aperture.fifo fun _ => rfl,
      field p Aperture.inFlight fun _ => rfl, field p Aperture.fetch fun _ => rfl] using hf

theorem WorkConserving.elapse (d : Nat) (h : WorkConserving s) : WorkConserving (s.elapse d) := by
  refine h.of_parts (fun hi => ⟨hi, ?_, s.seq.elapse_op d⟩) (fun p op ho => ?_) (fun p => id) fun p hf => ?_
  · have hs : s.seq.state = .idle := hi
    change (if s.seq.state.accumulates then _ else _) = _
    rw [hs]; rfl
  · rwa [State.elapse_queue] at ho
  · rw [State.elapse_aperture_eq]
    refine ⟨?_, rfl⟩
    simpa only [State.fillExists, State.elapse_aperture_eq, State.elapse_capacity] using hf

theorem State.blockedByHold_setHold (s : State) {p r : Port} {x : HoldState} (hx : x ≠ .none) (h : s.blockedByHold r = true) :
    (s.setHold p x).blockedByHold r = true := by
  simp only [State.blockedByHold, decide_eq_true_eq] at h ⊢
  rcases Port.eq_or_peer p r.peer with e | e <;> rw [e] at h ⊢
  · rwa [State.setHold_holdOf]
  · rwa [State.setHold_holdOf_peer]

theorem WorkConserving.silent (h : WorkConserving s) (e : Silent s t) : WorkConserving t := by
  cases e with
  | same => exact h
  | claimed | released => exact h.of_heads rfl (fun _ => rfl) (fun _ => rfl) rfl fun _ _ => id
  | holdRenewed => exact h.of_heads rfl (fun _ => rfl) (fun _ => rfl) rfl fun _ _ => id
  | @holdAsked p | @holdGiven p =>
    exact h.of_parts (fun hi => ⟨hi, rfl, rfl⟩) (fun _ _ => id)
      (fun r hb => s.blockedByHold_setHold (p := p) (by simp) hb) fun _ hf => ⟨hf, rfl⟩
  | @retired p done =>
    refine h.of_heads rfl (fun _ => rfl) (fun q => State.modQueue_aperture_frame ..) rfl fun q op ho => ?_
    rw [State.modQueue_queue_eq] at ho
    split at ho
    · next e => subst e; exact Queue.head_retired done ho
    · exact ho
  | @stopped p x table =>
    refine h.of_heads rfl (fun _ => rfl) (fun q => State.modQueue_aperture_frame ..) rfl fun q op ho => ?_
    change ((s.modQueue p _).queue q).head = _ at ho
    rw [State.modQueue_queue_eq] at ho
    split at ho
    · rw [Queue.head_of_not_running] at ho
      · cases ho
      · rcases table with ⟨-, rfl⟩ | ⟨-, rfl⟩
        · simp only; split <;> simp
        · simp
    · exact ho
  | @flushed p state =>
    refine h.of_heads (State.flushQueue_seq ..) (fun _ => by simp [State.flushQueue, State.holdOf]) (fun q => State.flushQueue_aperture ..)
      (by simp [State.capacity, State.prof, State.flushQueue]) fun q op ho => ?_
    rw [State.flushQueue_queue] at ho
    split at ho
    · rw [Queue.head_of_not_running] at ho
      · cases ho
      · rcases state with e | e <;> simp [e]
    · exact ho
  | @closed p =>
    refine h.of_parts (fun hi => ⟨hi, rfl, rfl⟩) (fun q op => ?_) (fun _ => id) fun q hf => ?_
    · rw [State.modAperture_queue_frame]; exact id
    · simp only [State.fillExists, State.modAperture_aperture_eq] at hf ⊢
      split at hf
      · cases hf
      · next e => rw [if_neg e]; exact ⟨hf, rfl⟩
  | @stalled p =>
    refine h.of_fields (by simp [State.beginStall]) (fun _ => by simp [State.beginStall]) (fun _ => by simp [State.beginStall])
      (by simp [State.beginStall]) fun q => ?_
    rw [State.beginStall, State.drive_aperture_frame, State.modAperture_aperture_eq]
    split
    · next e => subst e; exact ⟨rfl, rfl, rfl, rfl⟩
    · exact ⟨rfl, rfl, rfl, rfl⟩
  | @stallEnded p d =>
    refine h.of_fields (by simp [State.endStall]) (fun _ => by simp [State.endStall]) (fun _ => by simp [State.endStall])
      (by simp [State.endStall]) fun q => ?_
    rw [State.endStall_aperture]
    split
    · next e => subst e; exact ⟨rfl, rfl, rfl, rfl⟩
    · exact ⟨rfl, rfl, rfl, rfl⟩
  | @sequencer q a move line =>
    refine h.of_parts (fun hi => ?_) (fun _ _ => id) (fun _ => id) fun _ hf => ⟨hf, rfl⟩
    have e : (s.withSeq q a).seq = { s.seq with line := q.line } := line hi
    rw [e] at hi ⊢
    exact ⟨hi, rfl, rfl⟩
  | timedOut => exact .of_busy (by rw [State.operationEnds_seq]; simp)
  | committed => exact .of_busy (by rw [State.callLine_seq, State.setSeqState_seq]; simp)
  | poweredOn => exact .of_busy (by simp [State.reset, Sequencer.reset])

/-- Whatever was before, the arbiter's look leaves no candidate in IDLE (R58). -/
theorem WorkConserving.consider (s : State) : WorkConserving s.consider := by
  by_cases hs : s.seq.state = .idle
  · rw [State.consider_of_idle hs]; exact s.grantPoint_choose
  · rw [State.consider_of_busy hs]
    refine .of_busy ?_
    rcases s.evaluateSuspend_cases with e | ⟨-, -, -, e⟩ | ⟨-, -, -, e⟩ <;> rw [e]
    · exact hs
    · exact hs
    · simp

theorem WorkConserving.row (h : WorkConserving s) (row : Row s t) : WorkConserving t := by
  cases row with
  | silent start event result =>
    refine .of_core result (.silent ?_ event)
    rcases start with e | ⟨d, e⟩
    · exact .of_core e h
    · exact .of_core e (h.elapse d)
  | considered start event considers result => exact .of_core result (.consider _)

end

/-- Settles O58: an event that may bring a candidate is followed by the arbiter's look; every other brings none. -/
theorem idleLeavesNothingEligible : Obligations.IdleLeavesNothingEligible := by
  unfold Obligations.IdleLeavesNothingEligible
  exact fun s t h hstep => h.row (step_row hstep)

end Sys2Proof.Machine
end

section
/-! SUPPORT. O60: the state right after reset has every invariant: no record, no buffer lent, empty rings and closed apertures. -/

namespace Sys2Proof.Machine

theorem State.reset_no_record (r : OpRecord) : ¬ State.reset.seq.holds r := by
  rintro (hr | ⟨x, hx, -⟩)
  · cases hr
  · cases hx

theorem State.reset_holdOf (p : Port) : State.reset.holdOf p = .none := by cases p <;> rfl
theorem State.reset_queue (p : Port) : State.reset.queue p = .reset := by cases p <;> rfl
theorem State.reset_aperture (p : Port) : State.reset.aperture p = .reset := by cases p <;> rfl
theorem State.reset_events (p : Port) : State.reset.events p = .reset := by cases p <;> rfl

theorem HoldExclusive.reset : HoldExclusive .reset where
  one := .inl rfl
  alone p h := by rw [State.reset_holdOf] at h; cases h
  timed := by
    constructor
    · intro h; cases h
    · rintro ⟨p, h⟩; rw [State.reset_holdOf] at h; cases h

theorem RecordsFit.reset : RecordsFit State.reset.seq where
  active := rfl
  place h := by cases h
  write x h := by cases h
  apart x r h := by cases h

theorem LineFits.reset : LineFits .reset where
  line := ⟨rfl, rfl, rfl, rfl⟩
  request h := by cases h
  dwell h := by cases h
  due h := by cases h
  watched h := by cases h

theorem SuspendsBounded.reset : SuspendsBounded .reset where
  profile prof h := by cases h
  active r h := by cases h
  suspended x h := by cases h
  standing r h := by cases h

theorem QueuesConsistent.reset : QueuesConsistent .reset := by
  refine (NamesFit.of_no_records (fun p n => ?_) rfl rfl).consistent (fun p => ?_) RecordsFit.reset
  · rw [State.reset_queue]; simp [Queue.reset, Slot.isActive]
  · rw [State.reset_queue]; exact Queue.ok_reset

theorem BuffersConsistent.reset : BuffersConsistent .reset := by
  refine .of_nothing (fun p n => ?_) (fun b => ?_) rfl rfl
  · rw [State.reset_queue]; simp [Queue.reset, Slot.waiting]
  · simp [State.holder, State.reset, Pool.reset]

theorem AperturesConsistent.reset : AperturesConsistent .reset := by
  refine (aperturesConsistent_iff _).2 ⟨fun p => ?_, fun r hr => absurd hr (State.reset_no_record r)⟩
  rw [State.reset_aperture]
  refine ⟨⟨rfl, Nat.zero_le _, fun _ => ⟨rfl, rfl⟩, nofun, nofun, rfl⟩, Nat.zero_le _, nofun, ?_,
    fun r hr => absurd (.inl hr) (State.reset_no_record r), fun r x hr => absurd hr (State.reset_no_record r)⟩
  simp only [Aperture.reset, Bool.false_eq_true, false_iff]
  rintro ⟨r, hr, -⟩
  exact State.reset_no_record r (.inl hr)

theorem SettingsInRange.reset : SettingsInRange .reset := by
  refine ⟨fun p => ?_, fun p => ?_, fun p => ?_⟩
  · rw [State.reset_events]; decide
  · rw [State.reset_aperture]; decide
  · rw [State.reset_events]; decide

/-- Settles O60: each invariant at reset, where nothing is queued, lent, open or on the flash. -/
theorem invariantsHoldAtReset : Obligations.InvariantsHoldAtReset := by
  unfold Obligations.InvariantsHoldAtReset
  exact ⟨.reset, .reset, .reset, .reset, .reset, .reset, .reset, .of_busy (by simp [State.reset, Sequencer.reset]), .reset⟩

end Sys2Proof.Machine
end

section
/-! SUPPORT. Bus accesses: the rows that are writes, what a write decodes to, and the accesses that are not taken (R175 to R186). -/

namespace Sys2Proof.Machine

/-- Settles O1: a step takes the front of the queue by definition. -/
theorem stepTakesFrontCommand : Obligations.StepTakesFrontCommand := by
  unfold Obligations.StepTakesFrontCommand
  exact fun s c rest => rfl

/-! ### Decoding -/

theorem CommandName.ofCode_code (c : CommandName) : CommandName.ofCode c.code = some c := by cases c <;> rfl

theorem CommandName.code_of_ofCode {code : Byte} {c : CommandName} (h : CommandName.ofCode code = some c) : c.code = code := by
  unfold CommandName.ofCode at h
  split at h <;> cases h <;> (next e => exact BitVec.eq_of_toNat_eq e.symm)

theorem CommandName.busWriteOf_toInstr (p : Port) (c : CommandName) : busWriteOf (c.toInstr p) = some (p, 0x02, c.code) := by
  cases c <;> rfl

theorem CommandName.wellFormed_toInstr (p : Port) (c : CommandName) : wellFormed (c.toInstr p) = true := by
  cases c <;> rfl

theorem decodeCommand_of_some {p : Port} {code : Byte} {c : CommandName} (h : CommandName.ofCode code = some c) :
    decodeCommand p code = c.toInstr p := by simp [decodeCommand, h]
theorem decodeCommand_of_none {p : Port} {code : Byte} (h : CommandName.ofCode code = none) :
    decodeCommand p code = .undefinedCommand p code := by simp [decodeCommand, h]

theorem decodeCommand_spells (p : Port) (code : Byte) :
    wellFormed (decodeCommand p code) = true ∧ busWriteOf (decodeCommand p code) = some (p, 0x02, code) := by
  cases h : CommandName.ofCode code with
  | none =>
    rw [decodeCommand_of_none h]
    exact ⟨by simp [wellFormed, h], rfl⟩
  | some c =>
    rw [decodeCommand_of_some h, CommandName.busWriteOf_toInstr, CommandName.code_of_ofCode h]
    exact ⟨CommandName.wellFormed_toInstr p c, rfl⟩

/-- Every write decodes to a well-formed row that stands for it. -/
theorem decodeWrite_spells (p : Port) (offset : BitVec 6) (v : Byte) :
    wellFormed (decodeWrite p offset v) = true ∧ busWriteOf (decodeWrite p offset v) = some (p, offset, v) := by
  have offset_eq {n : BitVec 6} (h : offset.toNat = n.toNat) : offset = n := BitVec.eq_of_toNat_eq h
  unfold decodeWrite
  split
  · next h => rw [offset_eq (n := 0x02) h]; exact decodeCommand_spells p v
  · next h => rw [offset_eq (n := 0x0D) h]; exact ⟨rfl, rfl⟩
  · next h => rw [offset_eq (n := 0x1A) h]; exact ⟨rfl, rfl⟩
  · next h => rw [offset_eq (n := 0x2C) h]; exact ⟨rfl, rfl⟩
  · next h => rw [offset_eq (n := 0x2D) h]; exact ⟨rfl, rfl⟩
  · next h => rw [offset_eq (n := 0x2E) h]; exact ⟨rfl, rfl⟩
  · next h => rw [offset_eq (n := 0x2F) h]; exact ⟨rfl, rfl⟩
  · next h => rw [offset_eq (n := 0x3D) h]; exact ⟨rfl, rfl⟩
  · refine ⟨?_, rfl⟩
    simp_all [wellFormed, ownWriteRow]

/-- A well-formed row that is a write is what its write decodes to. -/
theorem decodeWrite_of_busWriteOf {i : Instr} {p : Port} {offset : BitVec 6} {v : Byte} (hwf : wellFormed i = true)
    (h : busWriteOf i = some (p, offset, v)) : decodeWrite p offset v = i := by
  cases i with
  | undefinedCommand q code =>
    cases h
    exact decodeCommand_of_none (by simpa [wellFormed] using hwf)
  | registerWrite q o w =>
    cases h
    simp only [wellFormed, Bool.not_eq_true'] at hwf
    unfold decodeWrite
    split
    case h_9 => rfl
    all_goals simp_all [ownWriteRow]
  | evflagsWrite q high w => cases high <;> cases h <;> rfl
  | evenableWrite q high w => cases high <;> cases h <;> rfl
  | _ => cases h <;> rfl

/-- Settles O4: by the decode of each offset, and of each command code. -/
theorem busWritesDecodeToTheirRow : Obligations.BusWritesDecodeToTheirRow := by
  unfold Obligations.BusWritesDecodeToTheirRow
  exact ⟨fun i p offset v => decodeWrite_of_busWriteOf, decodeWrite_spells⟩

/-! ### Running a write -/

theorem exec_registerWrite (p : Port) (offset : BitVec 6) (v : Byte) (s : State) :
    exec (.registerWrite p offset v) s = .next (writeWindow p offset v s) := rfl
theorem exec_undefinedCommand (p : Port) (code : Byte) (s : State) :
    exec (.undefinedCommand p code) s = .next (writeCommand p code s) := rfl

theorem exec_undefinedCommand_of_none {p : Port} {code : Byte} {s : State} (ht : s.accessTaken p = true)
    (h : CommandName.ofCode code = none) : exec (.undefinedCommand p code) s = .next (s.setResult p .refusedInvalid) := by
  rw [exec_undefinedCommand]
  unfold writeCommand
  rw [h]
  exact congrArg _ (State.command_of_taken ht _)

/-- Settles O5: a row that is a write does what the write of its byte does, and every write decodes to such a row. -/
theorem busWritesRunAsTheirRow : Obligations.BusWritesRunAsTheirRow := by
  unfold Obligations.BusWritesRunAsTheirRow
  refine ⟨fun p offset v s => ?_, fun p code s => ?_, fun p code s => exec_undefinedCommand_of_none⟩
  · rw [exec_of_busWriteOf (decodeWrite_spells p offset v).2]; rfl
  · rw [exec_of_busWriteOf (decodeCommand_spells p code).2]; rfl

/-! ### Accesses that are not taken -/

theorem State.command_of_not_taken {s : State} {p : Port} (h : s.accessTaken p = false) (f : State → State × Result) :
    s.command p f = s := State.access_of_not_taken h _

theorem writeCommand_of_not_taken {s : State} {p : Port} (h : s.accessTaken p = false) (code : Byte) :
    writeCommand p code s = s := by
  unfold writeCommand
  split
  · next c _ =>
    cases c with
    | softReset => exact State.access_of_not_taken h _
    | _ => exact State.command_of_not_taken h _
  · exact State.command_of_not_taken h _

theorem writeWindow_of_not_taken {s : State} {p : Port} (h : s.accessTaken p = false) (offset : BitVec 6) (v : Byte) :
    writeWindow p offset v s = s := by
  unfold writeWindow
  split
  · exact writeCommand_of_not_taken h v
  all_goals exact State.access_of_not_taken h _

theorem accessPort_of_busWriteOf {i : Instr} {p : Port} {offset : BitVec 6} {v : Byte} (h : busWriteOf i = some (p, offset, v)) :
    accessPort i = some p := by
  cases i <;> cases h <;> rfl

theorem exec_of_not_taken {i : Instr} {p : Port} {s : State} (hp : accessPort i = some p) (h : s.accessTaken p = false) :
    exec i s = .next s := by
  cases hb : busWriteOf i with
  | some w =>
    obtain ⟨q, offset, v⟩ := w
    obtain rfl := Option.some.inj ((accessPort_of_busWriteOf hb).symm.trans hp)
    rw [exec_of_busWriteOf hb, writeWindow_of_not_taken h]
  | none =>
    cases i with
    | bufdataRead | apdataRead | cfgdataRead => cases hp; exact congrArg _ (State.access_of_not_taken h _)
    | _ => first | (cases hp; done) | cases hb

/-- Settles O6: an access that is not taken leaves the state, whatever its row. -/
theorem accessesNotTakenChangeNothing : Obligations.AccessesNotTakenChangeNothing := by
  unfold Obligations.AccessesNotTakenChangeNothing
  intro i p s hp h
  refine exec_of_not_taken hp ?_
  unfold State.accessTaken
  rcases h with h | h | h <;> simp [h]

end Sys2Proof.Machine
end

section
/-! SUPPORT. The queue's commands, outcome by outcome: POST, RETIRE, START, STOP, RESUME and FLUSH (R5 to R13, R21). -/

namespace Sys2Proof.Machine

variable {p : Port} {s : State}

/-- A command that is taken does what its body does, with the body's outcome in RESULT. -/
theorem exec_of_body {i : Instr} {f : State → State × Result} {t : State} {r : Result} (ht : s.accessTaken p = true)
    (he : exec i s = .next (s.command p f)) (hf : f s = (t, r)) : exec i s = .next (t.setResult p r) := by
  rw [he, State.command_of_taken ht, hf]

/-! ### POST -/

theorem Queue.isFull_iff (q : Queue) : q.isFull = true ↔ ∀ n : Fin 8, q.slots[n] ≠ .free := by
  simp only [Queue.isFull, List.all_eq_true, List.mem_finRange, true_implies, Bool.not_eq_true']
  refine forall_congr' fun n => ?_
  cases q.slots[n] <;> simp [Slot.isFree]

theorem Queue.isFull_eq_false {q : Queue} {n : Fin 8} (h : q.slots[n] = .free) : q.isFull = false := by
  rw [← Bool.not_eq_true, Queue.isFull_iff]
  exact fun hall => hall n h

theorem State.ownsBuffer_iff (s : State) (p : Port) (op : SlotOp) :
    s.ownsBuffer p op = true ↔ ∀ b, op.buffer = some b → s.holder b = .port p := by
  unfold State.ownsBuffer
  cases op.buffer <;> simp

section
variable {prof : Profile} {n : Fin 8} {op : SlotOp}

theorem postBody_of_none (h : s.profile.committed = none) : postBody p s = (s, .refusedState) := by
  simp [postBody, h, refuse]
theorem postBody_of_full (h : s.profile.committed = some prof) (full : (s.queue p).isFull = true) :
    postBody p s = (s, .refusedFull) := by
  simp [postBody, h, full, refuse]
theorem postBody_of_illegal (h : s.profile.committed = some prof) (room : (s.queue p).isFull = false)
    (illegal : (s.queue p).composer.operation prof.capacity = none) : postBody p s = (s, .refusedInvalid) := by
  simp [postBody, h, room, illegal, refuse]
theorem postBody_of_legal (h : s.profile.committed = some prof) (room : (s.queue p).isFull = false)
    (legal : (s.queue p).composer.operation prof.capacity = some op) :
    postBody p s = if s.ownsBuffer p op then ((s.enqueue p op).consider, .accepted) else (s, .refusedOwner) := by
  simp [postBody, h, room, legal, refuse, accept]

end

/-- Settles O10: the first step of POST that fails decides. -/
theorem postRefusalsInOrder : Obligations.PostRefusalsInOrder := by
  unfold Obligations.PostRefusalsInOrder
  intro p s ht
  refine ⟨fun h => exec_of_body ht rfl (postBody_of_none h), fun prof h => ⟨fun full => ?_, fun n free => ⟨fun illegal => ?_, ?_⟩⟩⟩
  · exact exec_of_body ht rfl (postBody_of_full h ((Queue.isFull_iff _).2 full))
  · exact exec_of_body ht rfl (postBody_of_illegal h (Queue.isFull_eq_false free) illegal)
  · intro op b legal hb other
    refine exec_of_body ht rfl ((postBody_of_legal h (Queue.isFull_eq_false free) legal).trans (if_neg ?_))
    rw [State.ownsBuffer_iff]
    exact fun hall => other (hall b hb)

/-- Lending a buffer to a slot of its port moves no charge (R84, R88). -/
theorem State.charge_setHolder_lent {b : Fin 16} (h : s.holder b = .port p) (n : Fin 8) (r : Port) :
    (s.setHolder b (.lentSlot p n)).charge r = s.charge r := by
  unfold State.charge
  refine List.countP_congr fun c _ => ?_
  rw [State.setHolder_holder_eq]
  split
  · next e => subst e; rw [h]; simp [Holder.chargedTo]
  · rfl

/-- Settles O11: POST of an operation that no step refuses. -/
theorem postFillsTheSlot : Obligations.PostFillsTheSlot := by
  unfold Obligations.PostFillsTheSlot
  intro p s prof n op ht h free legal owned filled
  have body : postBody p s = ((s.enqueue p op).consider, .accepted) :=
    (postBody_of_legal h (Queue.isFull_eq_false free) legal).trans (if_pos ((s.ownsBuffer_iff p op).2 owned))
  have run : exec (.post p) s = .next ((s.enqueue p op).consider.setResult p .accepted) := exec_of_body ht rfl body
  refine ⟨fun hb => ?_, fun b hb => ⟨?_, fun r => ?_⟩⟩
  · rw [run, State.enqueue, hb]; rfl
  · rw [run, State.enqueue, hb]; rfl
  · exact State.charge_setHolder_lent (s := filled) (owned b hb) _ r

/-! ### RETIRE -/

theorem Slot.isDone_eq_true (x : Slot) : x.isDone = true ↔ ∃ op c, x = .done op c := by cases x <;> simp [Slot.isDone]

/-- Settles O12: RETIRE by the slot at the retire index. -/
theorem retireFreesTheOldestDone : Obligations.RetireFreesTheOldestDone := by
  unfold Obligations.RetireFreesTheOldestDone
  intro p s ht
  refine ⟨fun op c h => exec_of_body ht rfl ?_, fun h => exec_of_body ht rfl ?_⟩
  · unfold retireBody
    simp only
    rw [if_pos ((Slot.isDone_eq_true _).2 ⟨op, c, h⟩)]
    rfl
  · unfold retireBody
    simp only
    rw [if_neg]
    · rfl
    · rw [Slot.isDone_eq_true]
      rintro ⟨op, c, e⟩
      exact h op c e

/-! ### START, STOP and RESUME -/

theorem Queue.hasActive_eq_true_iff (q : Queue) : q.hasActive = true ↔ ∃ (n : Fin 8) (op : SlotOp), q.slots[n] = .active op := by
  rw [Queue.hasActive_iff]
  refine exists_congr fun n => ?_
  cases q.slots[n] <;> simp [Slot.isActive]

/-- Settles O13: the table, row by row. -/
theorem queueCommandTable : Obligations.QueueCommandTable := by
  unfold Obligations.QueueCommandTable
  intro p s ht become
  have start {t : State × Result} (h : startBody p s = t) : exec (.start p) s = .next (t.1.setResult p t.2) :=
    exec_of_body ht rfl h
  have stop {t : State × Result} (h : stopBody p s = t) : exec (.stop p) s = .next (t.1.setResult p t.2) := exec_of_body ht rfl h
  have resume {t : State × Result} (h : resumeBody p s = t) : exec (.resume p) s = .next (t.1.setResult p t.2) :=
    exec_of_body ht rfl h
  refine ⟨fun h => ⟨?_, ?_, ?_⟩, fun h => ⟨?_, fun n op ha => ?_, fun ha => ?_, ?_⟩, fun h => ⟨?_, ?_, ?_⟩, fun h => ⟨?_, ?_, ?_⟩⟩
  · exact start (by simp only [startBody, h]; rfl)
  · exact stop (by simp only [stopBody, h]; rfl)
  · exact resume (by simp only [resumeBody, h]; rfl)
  · exact start (by simp only [startBody, h]; rfl)
  · have active : (s.queue p).hasActive = true := (Queue.hasActive_eq_true_iff _).2 ⟨n, op, ha⟩
    exact stop (by simp only [stopBody, h, active]; rfl)
  · have none : (s.queue p).hasActive = false := by
      rw [← Bool.not_eq_true, Queue.hasActive_eq_true_iff]
      rintro ⟨n, op, e⟩
      exact ha n op e
    exact stop (by simp only [stopBody, h, none]; rfl)
  · exact resume (by simp only [resumeBody, h]; rfl)
  · exact start (by simp only [startBody, h]; rfl)
  · exact stop (by simp only [stopBody, h]; rfl)
  · exact resume (by simp only [resumeBody, h]; rfl)
  · exact start (by simp only [startBody, h]; rfl)
  · exact stop (by simp only [stopBody, h]; rfl)
  · exact resume (by simp only [resumeBody, h]; rfl)

/-! ### FLUSH -/

theorem Queue.count_eq_zero (q : Queue) (f : Slot → Bool) : q.count f = 0 ↔ ∀ n : Fin 8, f q.slots[n] = false := by
  simp [Queue.count, List.countP_eq_zero]

/-- The state after an accepted FLUSH of a ring with a QUEUED slot (R13, R89, R167). -/
theorem State.flushQueue_setResult (out : (s.port p).inReset = false) (some : (s.queue p).count Slot.isQueued ≠ 0) :
    (s.flushQueue p).setResult p .accepted
      = { s with
          ports := s.ports.set p
            { s.port p with
              queue := { s.queue p with
                slots := Vector.ofFn fun n : Fin 8 => (s.queue p).slots[n].flushed, start := (s.queue p).post }
              events := (s.events p).coalesce ((s.queue p).count Slot.isQueued)
              result := .accepted }
          pool := { s.pool with holders := Vector.ofFn fun b => (s.holder b).flushed p (s.queue p) } } := by
  have notified (w : State) (hw : (w.port p).inReset = false) (k : Nat) (hk : k ≠ 0) :
      w.countCompletions p k = w.modPort p fun x => { x with events := x.events.coalesce k } := by
    simp [State.countCompletions, State.notify, hk, hw]
  unfold State.flushQueue
  simp only
  rw [notified _ _ _ some]
  · cases p <;> rfl
  · cases p <;> exact out

/-- Settles O14: FLUSH by the queue state, then slot by slot and buffer by buffer. -/
theorem flushCompletesTheQueuedSlots : Obligations.FlushCompletesTheQueuedSlots := by
  unfold Obligations.FlushCompletesTheQueuedSlots
  intro p s ht
  refine ⟨fun h => exec_of_body ht rfl ?_, fun h => ⟨fun none => exec_of_body ht rfl ?_, fun n queued => ?_⟩⟩
  · rcases h with h | h <;> simp only [flushBody, h] <;> rfl
  · have zero : (s.queue p).count Slot.isQueued = 0 := (Queue.count_eq_zero _ _).2 none
    rcases h with h | h <;> simp only [flushBody, h, zero] <;> rfl
  · have some : (s.queue p).count Slot.isQueued ≠ 0 := by
      rw [Ne, Queue.count_eq_zero]
      intro none
      rw [none n] at queued
      cases queued
    have body : flushBody p s = (s.flushQueue p, .accepted) := by
      rcases h with h | h <;> simp only [flushBody, h, if_neg some] <;> rfl
    refine ⟨_, _, (exec_of_body ht rfl body).trans (congrArg _ (State.flushQueue_setResult (State.accessTaken_inReset ht) some)),
      fun n op e => ?_, fun n e => ?_, fun b m hb hm => ?_, fun b hb => ?_⟩
    · simp only [Fin.getElem_fin, Vector.getElem_ofFn] at e ⊢
      rw [e]; rfl
    · simp only [Fin.getElem_fin, Vector.getElem_ofFn] at e ⊢
      cases hx : (s.queue p).slots[n.val] <;> rw [hx] at e <;> first | rfl | cases e
    · simp only [Fin.getElem_fin, Vector.getElem_ofFn]
      rw [hb]
      exact if_pos (by simpa using hm)
    · simp only [Fin.getElem_fin, Vector.getElem_ofFn]
      cases hx : s.holder b with
      | lentSlot r m =>
        refine if_neg fun hc => ?_
        simp only [Bool.and_eq_true, decide_eq_true_eq] at hc
        obtain ⟨rfl, hm⟩ := hc
        have hno := hb m hx
        exact absurd (hm.symm.trans hno) (by simp)
      | _ => rfl

end Sys2Proof.Machine
end

section
/-! SUPPORT. The buffer pool's commands and window, outcome by outcome (R84 to R92). -/

namespace Sys2Proof.Machine

variable {p : Port} {s : State}

/-! ### Changes of a port's record -/

theorem State.modPort_congr {f g : PortState → PortState} (h : f (s.port p) = g (s.port p)) : s.modPort p f = s.modPort p g := by
  exact congrArg (fun x => ({ s with ports := s.ports.set p x } : State)) h

theorem State.modPort_eq_self {f : PortState → PortState} (h : f (s.port p) = s.port p) : s.modPort p f = s := by
  rw [State.modPort_congr (g := id) h]
  cases p <;> rfl

/-- A notice in the same event as another change of the port's record (R173). -/
theorem State.notify_modPort (s : State) (p : Port) {f : PortState → PortState} (g : EventUnit → EventUnit) :
    (s.modPort p f).notify p g
      = s.modPort p fun x => { f x with events := if (f x).inReset then (f x).events else g (f x).events } := by
  unfold State.notify
  split
  · next h =>
    refine State.modPort_congr ?_
    rw [State.port_modPort] at h
    rw [if_pos h]
  · next h =>
    rw [State.modPort_modPort]
    refine State.modPort_congr ?_
    rw [State.port_modPort] at h
    rw [if_neg h]

/-! ### The buffer that BUFSEL names, and the charge -/

theorem bufferNamed_of_le {v : Byte} (h : 16 ≤ v.toNat) : bufferNamed v = none := by
  unfold bufferNamed; rw [dif_neg (by omega)]
theorem bufferNamed_of_eq {v : Byte} {b : Fin 16} (h : v.toNat = b.val) : bufferNamed v = some b := by
  unfold bufferNamed
  rw [dif_pos (by omega)]
  exact congrArg some (Fin.ext h)
theorem State.reachable_of_held {b : Fin 16} (hb : (s.port p).bufSel.toNat = b.val) (held : s.holder b = .port p) :
    s.reachable p = some b := by
  simp [State.reachable, bufferNamed_of_eq hb, held]
theorem State.reachable_of_not_held (h : ∀ b : Fin 16, (s.port p).bufSel.toNat = b.val → s.holder b ≠ .port p) :
    s.reachable p = none := by
  unfold State.reachable
  split
  · next b hb => exact if_neg (h b ((bufferNamed_eq_some _ _).1 hb).symm)
  · rfl

/-- A buffer that becomes, or ceases to be, charged to a port moves that port's charge by one. -/
theorem State.charge_setHolder (s : State) (b : Fin 16) (x : Holder) (q : Port) :
    (s.setHolder b x).charge q + (if (s.holder b).chargedTo q then 1 else 0)
      = s.charge q + (if x.chargedTo q then 1 else 0) := by
  have nodup : (List.finRange 16).Nodup := List.nodup_finRange 16
  have count (l : List (Fin 16)) (hl : l.Nodup) (hb : b ∈ l) :
      (l.countP fun c => ((s.setHolder b x).holder c).chargedTo q) + (if (s.holder b).chargedTo q then 1 else 0)
        = (l.countP fun c => (s.holder c).chargedTo q) + (if x.chargedTo q then 1 else 0) := by
    induction l with
    | nil => cases hb
    | cons c l ih =>
      simp only [List.countP_cons, State.setHolder_holder_eq]
      obtain ⟨hc, hl⟩ := List.nodup_cons.1 hl
      by_cases e : c = b
      · subst e
        have rest : (l.countP fun d => ((if d = c then x else s.holder d) : Holder).chargedTo q)
            = l.countP fun d => (s.holder d).chargedTo q := by
          refine List.countP_congr fun d hd => ?_
          have hne : d ≠ c := by rintro rfl; exact hc hd
          rw [if_neg hne]
        rw [rest, if_pos rfl]
        omega
      · have := ih hl ((List.mem_cons.1 hb).resolve_left (Ne.symm e))
        simp only [State.setHolder_holder_eq] at this
        rw [if_neg e]
        omega
  exact count _ nodup (List.mem_finRange b)

theorem State.charge_of_holders {t : State} (h : ∀ b, t.holder b = s.holder b) (q : Port) : t.charge q = s.charge q := by
  simp only [State.charge, h]

/-! ### CLAIM -/

theorem State.freeBuffer?_eq_none (h : ∀ b, s.holder b ≠ .free) : s.freeBuffer? = none := by
  simpa [State.freeBuffer?, List.find?_eq_none] using h

theorem State.freeBuffer?_lowest {b : Fin 16} (free : s.holder b = .free) (lowest : ∀ c, c < b → s.holder c ≠ .free) :
    s.freeBuffer? = some b := by
  refine List.find?_eq_some_iff_getElem.2 ⟨by simpa using free, b.val, by simp, by simp, fun j hj => ?_⟩
  simpa using lowest ⟨j, by omega⟩ hj

/-- Settles O16: CLAIM by the charge, then by the lowest FREE buffer. -/
theorem claimTakesTheLowestFreeBuffer : Obligations.ClaimTakesTheLowestFreeBuffer := by
  unfold Obligations.ClaimTakesTheLowestFreeBuffer
  intro p s ht refused
  have body {t : State × Result} (h : claimBody p s = t) : exec (.claim p) s = .next (t.1.setResult p t.2) := exec_of_body ht rfl h
  have marked (r : Result) : (s.markRefused p).setResult p r = refused r := s.modPort_modPort p _ _
  refine ⟨fun h => by simp [State.quota, h], fun prof h => ?_, fun full => ?_, fun room none => ?_, fun room b free lowest => ?_⟩
  · simp only [State.quota, h]; exact ⟨rfl, rfl⟩
  · rw [body (if_pos full), marked]
  · rw [body (by rw [claimBody, if_neg (by omega), State.freeBuffer?_eq_none none]), marked]
  · have run := body (t := accept (s.giveBuffer p b))
      (by rw [claimBody, if_neg (by omega), State.freeBuffer?_lowest free lowest])
    have holders (c : Fin 16) : ((s.giveBuffer p b).setResult p .accepted).holder c = (s.setHolder b (.port p)).holder c := rfl
    refine ⟨_, run, ?_, ?_, ?_⟩
    · cases p <;> rfl
    · have := s.charge_setHolder b (.port p) p
      rw [free] at this
      simp only [accept]
      rw [State.charge_of_holders holders]
      simpa [Holder.chargedTo] using this
    · have := s.charge_setHolder b (.port p) p.peer
      rw [free] at this
      simp only [accept]
      rw [State.charge_of_holders holders]
      simpa [Holder.chargedTo] using this

/-! ### RELEASE -/

/-- A port told that a buffer has become FREE (R86, R173). -/
def PortState.toldFreed (x : PortState) : PortState :=
  if x.claimRefused then
    { x with claimRefused := false, events := if x.inReset then x.events else x.events.raise .bufferFreed }
  else x

theorem State.noticeFreed_eq (s : State) (p : Port) : s.noticeFreed p = s.modPort p PortState.toldFreed := by
  unfold State.noticeFreed
  cases h : (s.port p).claimRefused
  · exact (State.modPort_eq_self (by simp [PortState.toldFreed, h])).symm
  · rw [if_pos rfl, State.raise, State.notify_modPort]
    refine State.modPort_congr ?_
    simp [PortState.toldFreed, h]

theorem State.buffersFreed_eq (s : State) :
    s.buffersFreed = { s with ports := ⟨s.ports.a.toldFreed, s.ports.b.toldFreed⟩ } := by
  rw [State.buffersFreed, State.noticeFreed_eq, State.noticeFreed_eq]; rfl

/-- Settles O17: RELEASE by the buffer that BUFSEL names. -/
theorem releaseFreesTheBuffer : Obligations.ReleaseFreesTheBuffer := by
  unfold Obligations.ReleaseFreesTheBuffer
  intro p s ht
  have body {t : State × Result} (h : releaseBody p s = t) : exec (.release p) s = .next (t.1.setResult p t.2) :=
    exec_of_body ht rfl h
  refine ⟨fun h => ?_, fun b hb => ⟨fun other => ?_, fun held => ?_⟩⟩
  · exact body (t := (s, .refusedInvalid)) (by rw [releaseBody, bufferNamed_of_le h]; rfl)
  · exact body (t := (s, .refusedOwner)) (by simp only [releaseBody, bufferNamed_of_eq hb, if_neg other]; rfl)
  · have run := body (t := accept (s.freeBuffer b)) (by simp only [releaseBody, bufferNamed_of_eq hb, if_pos held])
    have holders (c : Fin 16) : ((s.freeBuffer b).setResult p .accepted).holder c = (s.setHolder b .free).holder c := by
      change (s.freeBuffer b).holder c = _
      rw [State.freeBuffer_holder, State.setHolder_holder_eq]
    refine ⟨_, run, ?_, ?_, ?_⟩
    · simp only [accept, State.freeBuffer, State.buffersFreed_eq]
      cases p <;> rfl
    · have := s.charge_setHolder b .free p
      rw [held] at this
      simp only [accept]
      rw [State.charge_of_holders holders]
      simpa [Holder.chargedTo] using this
    · have := s.charge_setHolder b .free p.peer
      rw [held] at this
      simp only [accept]
      rw [State.charge_of_holders holders]
      simpa [Holder.chargedTo] using this

/-! ### BUFDATA -/

/-- Settles O18: BUFDATA by the buffer that the port reaches. -/
theorem bufferWindowReachesHeldBuffers : Obligations.BufferWindowReachesHeldBuffers := by
  unfold Obligations.BufferWindowReachesHeldBuffers
  intro p v s ht
  have read {t : State} (h : readBufdata p s = t) : exec (.bufdataRead p) s = .next t :=
    congrArg _ ((State.access_of_taken ht _).trans h)
  have write {t : State} (h : writeBufdata p v s = t) : exec (.bufdataWrite p v) s = .next t :=
    congrArg _ ((State.access_of_taken ht _).trans h)
  refine ⟨fun b hb held => ?_, fun other => ?_⟩
  · have reach := State.reachable_of_held hb held
    refine ⟨read ?_, write ?_⟩
    · simp only [readBufdata, reach]
      cases p <;> rfl
    · simp only [writeBufdata, reach]; rfl
  · have reach := State.reachable_of_not_held other
    refine ⟨read ?_, write ?_⟩
    · simp only [readBufdata, reach]
      exact s.modPort_modPort p _ _
    · simp only [writeBufdata, reach]

end Sys2Proof.Machine
end

section
/-! SUPPORT. The read aperture's rows, outcome by outcome (R99 to R109, R179, R180). -/

namespace Sys2Proof.Machine

variable {p : Port} {s : State}

/-- Settles O19: OPEN in the order of R99, and CLOSE. -/
theorem openAndCloseRestartTheStream : Obligations.OpenAndCloseRestartTheStream := by
  unfold Obligations.OpenAndCloseRestartTheStream
  intro p s ht address
  have body {t : State × Result} (h : openBody p s = t) : exec (.openAperture p) s = .next (t.1.setResult p t.2) :=
    exec_of_body ht rfl h
  refine ⟨fun h => ?_, fun prof h => ⟨fun beyond => ?_, fun below => ?_⟩, exec_of_body ht rfl rfl⟩
  · exact body (t := (s, .refusedState)) (by simp only [openBody, h]; rfl)
  · exact body (t := (s, .refusedInvalid)) (by simp only [openBody, h]; exact if_pos beyond)
  · exact body (t := ((s.modAperture p (Aperture.restart .opened address)).consider, .accepted))
      (by simp only [openBody, h]; exact if_neg (by omega))

/-! ### APDATA -/

/-- The oldest byte leaves: END is entered where it was the last one at capacity (R106). -/
theorem Aperture.takeByte_eq {a : Aperture} {byte : Byte} {rest : List Byte} (h : a.fifo = byte :: rest) (capacity : Nat) :
    a.takeByte capacity
      = { a with fifo := rest, current := a.current + 1,
                 state := if a.state = .opened ∧ rest = [] ∧ a.fetch = capacity then .ended else a.state } := by
  unfold Aperture.takeByte Aperture.endAtCapacity
  simp only [h, List.tail_cons, Bool.and_eq_true, decide_eq_true_eq, List.isEmpty_iff, and_assoc]
  split <;> rfl

/-- A read that returns 0xFF with a cause (R107). -/
theorem State.drive_apertureCause (h : (s.port p).inReset = false) (c : ApCause) :
    (s.drive p (some 0xFF)).apertureCause p c
      = s.modPort p fun x => { x with dataOut := some 0xFF, events := { x.events with apCause := c }.raise .aperture } := by
  rw [State.apertureCause, State.drive, State.notify_modPort]
  exact State.modPort_congr (by simp [h])

theorem State.beginStall_eq (s : State) (p : Port) :
    s.beginStall p = s.modPort p fun x =>
      { x with
        dataOut := none
        aperture := { x.aperture with stalled := true, stallTimer := some ((s.aperture p).limit.toNat * 32) } } := by
  unfold State.beginStall State.modAperture State.drive
  rw [State.modPort_modPort]
  exact State.modPort_congr rfl

/-- Settles O20: a read of APDATA by the FIFO, the aperture state and the policy. -/
theorem apertureReadOutcomes : Obligations.ApertureReadOutcomes := by
  unfold Obligations.ApertureReadOutcomes
  intro p s ht a refused
  have out := State.accessTaken_inReset ht
  have read {t : State} (h : readApdata p s = t) : exec (.apdataRead p) s = .next t :=
    congrArg _ ((State.access_of_taken ht _).trans h)
  refine ⟨fun byte rest h => read ?_, fun empty => ⟨fun h => read ?_, fun h => read ?_, fun h => read ?_,
    fun h hp => read ?_, fun h hp => read ?_⟩⟩
  · have taken : (s.modAperture p (Aperture.takeByte s.capacity)).drive p (some byte)
        = s.modPort p fun x => { x with
            dataOut := some byte
            aperture := { x.aperture with
              fifo := rest, current := a.current + 1
              state := if a.state = .opened ∧ rest = [] ∧ a.fetch = s.capacity then .ended else a.state } } := by
      rw [State.modAperture, State.drive, State.modPort_modPort]
      refine State.modPort_congr ?_
      have := Aperture.takeByte_eq h s.capacity
      change ({ s.port p with aperture := a.takeByte s.capacity, dataOut := some byte } : PortState) = _
      rw [this]; rfl
    rw [← taken]
    unfold readApdata
    simp only
    split
    · next b _ e =>
      obtain ⟨rfl, -⟩ := List.cons.inj (e.symm.trans h)
      rfl
    · next e => exact absurd (e.symm.trans h) (by simp)
  all_goals
    unfold readApdata
    simp only
    split
    · next e => exact absurd (e.symm.trans empty) (by simp)
  · rw [show (s.aperture p).state = .closed from h]
  · rw [show (s.aperture p).state = .denied from h]; exact State.drive_apertureCause out _
  · rw [show (s.aperture p).state = .ended from h]; exact State.drive_apertureCause out _
  · rw [show (s.aperture p).state = .opened from h, show (s.aperture p).policy = .noStall from hp]
    exact State.drive_apertureCause out _
  · rw [show (s.aperture p).state = .opened from h, show (s.aperture p).policy = .stall from hp]
    exact s.beginStall_eq p

/-! ### The end of a stall -/

theorem State.endStall_eq (s : State) (p : Port) (d : Option Byte) :
    s.endStall p d = s.modPort p fun x =>
      { x with dataOut := d, aperture := { x.aperture with stalled := false, stallTimer := none } } := by
  unfold State.endStall State.modAperture State.drive
  rw [State.modPort_modPort]

/-- Settles O21: the abandoned and the expired stall, and the expiry of a timer that has not run out. -/
theorem stallsEndWithTheirByte : Obligations.StallsEndWithTheirByte := by
  unfold Obligations.StallsEndWithTheirByte
  intro p s released
  have ended (d : Option Byte) : s.endStall p d = released d s := s.endStall_eq p d
  refine ⟨fun h => ?_, fun h => ?_, fun h ht => ?_, fun ht => ?_⟩
  · exact congrArg _ ((if_pos h).trans (ended none))
  · exact congrArg _ (if_neg (by simp [h]))
  · rw [← ended]
    exact congrArg _ (if_pos (by simp [h, ht]))
  · exact congrArg _ (if_neg (by simp [ht]))

end Sys2Proof.Machine
end

section
/-! SUPPORT. The hold unit's rows, outcome by outcome (R134 to R140). -/

namespace Sys2Proof.Machine

variable {p : Port} {s : State}

/-! ### HOLD_REQUEST -/

theorem State.drained_eq_false (s : State) (p : Port) :
    s.drained p = false ↔ ∃ r, s.seq.holds r ∧ r.source.port = p.peer := by
  rw [← Bool.not_eq_true, State.drained_iff]
  simp

theorem holdRequestBody_asked {prof : Profile} (h : s.profile.committed = some prof) (none : s.holdOf p = .none)
    (range : (s.port p).holdTime ≠ 0 ∧ (s.port p).holdTime.toNat ≤ prof.num .maxHold) (peer : s.holdOf p.peer = .none) :
    holdRequestBody p s
      = accept (if s.drained p then ((s.setHold p .pending).setDuration (s.port p).holdTime).grantHold p
          else (s.setHold p .pending).setDuration (s.port p).holdTime) := by
  have inRange : ¬ ((s.port p).holdTime = 0 || prof.num .maxHold < (s.port p).holdTime.toNat) = true := by
    simp only [Bool.or_eq_true, decide_eq_true_eq]
    exact fun bad => bad.elim range.1 (Nat.not_lt.2 range.2)
  simp only [holdRequestBody, h]
  rw [if_neg (by simp [none]), if_neg inRange, if_neg (by simp [peer])]
  rfl

/-- Settles O22: HOLD_REQUEST in the order of R134, then by the drain set. -/
theorem holdRequestOutcomes : Obligations.HoldRequestOutcomes := by
  unfold Obligations.HoldRequestOutcomes
  intro p s ht d
  have body {t : State × Result} (h : holdRequestBody p s = t) : exec (.holdRequest p) s = .next (t.1.setResult p t.2) :=
    exec_of_body ht rfl h
  have out := State.accessTaken_inReset ht
  refine ⟨fun h => ?_, fun prof h => ⟨fun held => ?_, fun none => ⟨fun bad => ?_, fun nonzero inRange => ⟨fun busy => ?_,
    fun peer => ⟨fun drains => ?_, fun drained => ?_⟩⟩⟩⟩⟩
  · exact body (t := (s, .refusedState)) (by simp only [holdRequestBody, h]; rfl)
  · exact body (t := (s, .refusedState)) (by simp only [holdRequestBody, h]; exact if_pos (by simpa using held))
  · refine body (t := (s, .refusedInvalid)) ?_
    simp only [holdRequestBody, h]
    rw [if_neg (by simp [none])]
    exact if_pos (by simpa using bad)
  · refine body (t := (s, .refusedBusy)) ?_
    simp only [holdRequestBody, h]
    rw [if_neg (by simp [none])]
    rw [if_neg (by simp only [Bool.or_eq_true, decide_eq_true_eq]; exact fun bad => bad.elim nonzero (Nat.not_lt.2 inRange))]
    exact if_pos (by simpa using busy)
  · rw [body (holdRequestBody_asked h none ⟨nonzero, inRange⟩ peer), if_neg (by simpa using (s.drained_eq_false p).2 drains)]
    cases p <;> rfl
  · rw [body (holdRequestBody_asked h none ⟨nonzero, inRange⟩ peer), if_pos ((s.drained_iff p).2 drained)]
    have granted (w : State) (hw : (w.port p).inReset = false) (c : HoldCause) :
        w.holdCause p c = w.modPort p fun x => { x with events := { x.events with holdCause := c }.raise .hold } := by
      simp [State.holdCause, State.notify, hw]
    simp only [accept, State.grantHold]
    rw [granted _ (by cases p <;> exact out)]
    cases p <;> rfl

/-! ### HOLD_RENEW, HOLD_RELEASE and the expiry -/

theorem State.heldPort_of_held (held : s.holdOf p = .held) (peer : s.holdOf p.peer = .none) : s.heldPort = some p := by
  unfold State.heldPort
  cases p
  · rw [if_pos held]
  · rw [if_neg (by rw [show s.holdOf .A = .none from peer]; simp), if_pos held]

/-- Settles O23: the two commands by the port's hold state, the expiry by the timer. -/
theorem holdRenewReleaseExpiry : Obligations.HoldRenewReleaseExpiry := by
  unfold Obligations.HoldRenewReleaseExpiry
  refine ⟨fun p s ht => ?_, fun p s held peer timer => ?_, fun s timer => ?_⟩
  · intro d ended
    have renew {t : State × Result} (h : holdRenewBody p s = t) : exec (.holdRenew p) s = .next (t.1.setResult p t.2) :=
      exec_of_body ht rfl h
    have release {t : State × Result} (h : holdReleaseBody p s = t) : exec (.holdRelease p) s = .next (t.1.setResult p t.2) :=
      exec_of_body ht rfl h
    refine ⟨fun h => ?_, fun h => ?_, fun h => ?_, fun h => ?_⟩
    · exact renew (by simp only [holdRenewBody, h]; rfl)
    · refine renew (t := (s, .refusedState)) ?_
      cases hs : s.holdOf p <;> first | exact absurd hs h | (simp only [holdRenewBody, hs]; rfl)
    · refine release (t := (State.consider ended, .accepted)) ?_
      cases hs : s.holdOf p <;> first | exact absurd hs h | (simp only [holdReleaseBody, hs]; rfl)
    · exact release (by simp only [holdReleaseBody, h]; rfl)
  · change (.next (expireHold s) : Host.Outcome State Fault Refusal) = _
    unfold expireHold
    rw [timer, State.heldPort_of_held held peer]
    rfl
  · rcases expireHold_cases s with e | ⟨p, h, -⟩
    · exact congrArg _ e
    · exact absurd h timer

end Sys2Proof.Machine
end

section
/-! SUPPORT. The authority's release and the three commits, outcome by outcome (R122, R123, R151, R153, R158). -/

namespace Sys2Proof.Machine

variable {p : Port} {s : State}

theorem State.hasAuthority_iff (s : State) (p : Port) : s.hasAuthority p = true ↔ s.profile.authority = some p :=
  decide_eq_true_iff

theorem State.hasAuthority_eq_false (s : State) (p : Port) : s.hasAuthority p = false ↔ s.profile.authority ≠ some p :=
  decide_eq_false_iff_not

/-- Settles O25: RELEASE_AUTHORITY by the holder and by any other port. -/
theorem authorityReleaseClearsStaging : Obligations.AuthorityReleaseClearsStaging := by
  unfold Obligations.AuthorityReleaseClearsStaging
  intro p s ht
  refine ⟨fun h => ?_, fun h => ?_⟩
  · exact exec_of_body (f := releaseAuthorityBody p) ht rfl (if_pos ((s.hasAuthority_iff p).2 h))
  · exact exec_of_body (f := releaseAuthorityBody p) ht rfl (if_neg (by rwa [s.hasAuthority_iff p]))

/-! ### COMMIT_REGION and COMMIT_DEFAULTS -/

theorem RegionTable.stagingValid_iff (t : RegionTable) :
    t.stagingValid = true ↔ ¬ (15 < t.staging[0].toNat ∨ 4095 < t.stagedFirst.toNat ∨ 4095 < t.stagedLast.toNat
      ∨ t.stagedLast.toNat < t.stagedFirst.toNat) := by
  simp only [RegionTable.stagingValid, RegionTable.stagedTarget, Bool.and_eq_true, decide_eq_true_eq, not_or, Nat.not_lt,
    and_assoc]
  exact and_congr_left fun _ => decide_eq_true_iff

theorem commitRegionBody_of_authority (h : s.profile.authority = some p) (valid : s.regions.stagingValid = true) {n : Fin 16}
    (hn : n.val = s.regions.staging[0].toNat) :
    commitRegionBody p s
      = if s.regions.entries[n].locked then refuse .refusedLocked s else accept ((s.takeRegion n).raiseBoth .config) := by
  have target : Fin.ofNat 16 s.regions.stagedTarget = n := Fin.ext (by simp [RegionTable.stagedTarget, ← hn])
  unfold commitRegionBody
  rw [if_neg (by simpa using (s.hasAuthority_iff p).2 h), if_neg (by simpa using valid)]
  subst target
  rfl

theorem commitDefaultsBody_of_authority (h : s.profile.authority = some p) :
    commitDefaultsBody p s
      = if s.regions.defaults.locked then refuse .refusedLocked s
        else accept (({ s with regions := { s.regions with defaults := s.regions.stagedDefaults } }).raiseBoth .config) := by
  unfold commitDefaultsBody
  rw [if_neg (by simpa using (s.hasAuthority_iff p).2 h)]

/-- Settles O28: the two commits in the order of R122 and of R123. -/
theorem regionCommitOutcomes : Obligations.RegionCommitOutcomes := by
  unfold Obligations.RegionCommitOutcomes
  intro p s ht stage first last bad defaults
  have region {t : State} {r : Result} (h : commitRegionBody p s = (t, r)) : exec (.commitRegion p) s = .next (t.setResult p r) :=
    exec_of_body ht rfl h
  have dflt {t : State} {r : Result} (h : commitDefaultsBody p s = (t, r)) : exec (.commitDefaults p) s = .next (t.setResult p r) :=
    exec_of_body ht rfl h
  refine ⟨fun h => ⟨?_, ?_⟩, fun h => ⟨fun hb => ?_, fun hb n hn => ⟨fun locked => ?_, fun unlocked => ?_⟩,
    fun locked => ?_, fun unlocked => ?_⟩⟩
  · exact region (if_pos (by simpa using (s.hasAuthority_eq_false p).2 h))
  · exact dflt (if_pos (by simpa using (s.hasAuthority_eq_false p).2 h))
  · refine region (t := s) ((if_neg (by simpa using (s.hasAuthority_iff p).2 h)).trans (if_pos ?_))
    rw [Bool.not_eq_true', ← Bool.not_eq_true, RegionTable.stagingValid_iff]
    exact fun valid => valid hb
  · exact region ((commitRegionBody_of_authority h ((RegionTable.stagingValid_iff _).2 hb) hn).trans (if_pos locked))
  · exact region ((commitRegionBody_of_authority h ((RegionTable.stagingValid_iff _).2 hb) hn).trans (if_neg (Bool.eq_false_iff.1 unlocked)))
  · exact dflt ((commitDefaultsBody_of_authority h).trans (if_pos locked))
  · exact dflt ((commitDefaultsBody_of_authority h).trans (if_neg (by simp [unlocked])))

/-! ### COMMIT_PROFILE -/

theorem Queue.hasWaiting_eq_false (q : Queue) : q.hasWaiting = false ↔ ∀ n : Fin 8, q.slots[n].waiting = none := by
  simp [Queue.hasWaiting]

theorem SeqState.quiet_iff (x : SeqState) : x.quiet = true ↔ x = .offline ∨ x = .idle ∨ x = .fault := by
  cases x <;> simp [SeqState.quiet]

theorem State.quietForCommit_iff_rings (s : State) :
    s.quietForCommit = true ↔ (s.seq.state = .offline ∨ s.seq.state = .idle ∨ s.seq.state = .fault) ∧ s.seq.suspended = none
      ∧ ∀ (q : Port) (n : Fin 8), (s.queue q).slots[n].waiting = none := by
  rw [State.quietForCommit_iff, SeqState.quiet_iff, Queue.hasWaiting_eq_false, Queue.hasWaiting_eq_false]
  refine and_congr_right fun _ => and_congr_right fun _ => ⟨fun h q => ?_, fun h => ⟨h .A, h .B⟩⟩
  cases q
  · exact h.1
  · exact h.2

/-- A notice of both ports in one event (R165, R173). -/
theorem State.raise_eq (s : State) (p : Port) (f : Flag) :
    s.raise p f = s.modPort p fun x => { x with events := if x.inReset then x.events else x.events.raise f } := by
  have same : s.modPort p id = s := State.modPort_eq_self rfl
  rw [State.raise, ← same, State.notify_modPort, same]
  rfl

/-- A port's record after its aperture is closed by a profile commit (R112). -/
def PortState.closedByCommit (x : PortState) : PortState :=
  { x with
    aperture := { x.aperture with
      state := .closed, current := 0, fetch := 0, fifo := [], generation := x.aperture.generation + 1
      stalled := false
      stallTimer := if x.aperture.stalled then none else x.aperture.stallTimer }
    dataOut := if x.aperture.stalled then some 0xFF else x.dataOut
    events :=
      if x.aperture.stalled && !x.inReset then { x.events with apCause := .closedByCommit }.raise .aperture else x.events }

theorem State.closeByCommit_eq (s : State) (p : Port) : s.closeByCommit p = s.modPort p PortState.closedByCommit := by
  unfold State.closeByCommit
  simp only
  split
  · next h =>
    replace h : (s.port p).aperture.stalled = true := h
    rw [State.endStall_eq, State.modAperture, State.modPort_modPort, State.apertureCause, State.notify_modPort]
    refine State.modPort_congr ?_
    cases hr : (s.port p).inReset <;> simp [PortState.closedByCommit, h, hr, Aperture.restart]
  · next h =>
    replace h : (s.port p).aperture.stalled = false := Bool.eq_false_iff.2 h
    refine State.modPort_congr ?_
    simp [PortState.closedByCommit, h, Aperture.restart]

theorem resetTransaction_eq (prof : Profile) :
    (if prof.num .resetEnableOp ≠ 0 then Transaction.resetEnable else .resetDevice)
      = if prof.field .resetEnableOp = 0 then .resetDevice else .resetEnable := by
  have : prof.num .resetEnableOp = 0 ↔ prof.field .resetEnableOp = 0 := by
    unfold Profile.num
    exact ⟨fun h => BitVec.eq_of_toNat_eq h, fun h => by rw [h]; rfl⟩
  simp only [ne_eq, this, ite_not]

theorem commitProfileBody_of_authority (h : s.profile.authority = some p) :
    commitProfileBody p s
      = if !s.quietForCommit then refuse .refusedBusy s
        else if !s.profile.staging.valid then refuse .refusedInvalid s else accept s.takeProfile :=
  if_neg (by simpa using (s.hasAuthority_iff p).2 h)

/-- Settles O27: COMMIT_PROFILE in the order of R151, and what an accepted one takes. -/
theorem profileCommitOutcomes : Obligations.ProfileCommitOutcomes := by
  unfold Obligations.ProfileCommitOutcomes
  intro p s ht
  have commit {t : State} {r : Result} (h : commitProfileBody p s = (t, r)) : exec (.commitProfile p) s = .next (t.setResult p r) :=
    exec_of_body ht rfl h
  refine ⟨fun h => ?_, fun h => ?_⟩
  · exact commit (if_pos (by simpa using (s.hasAuthority_eq_false p).2 h))
  have held := commitProfileBody_of_authority h
  intro quiet
  have quiet_iff : s.quietForCommit = true ↔ quiet := s.quietForCommit_iff_rings
  refine ⟨fun busy => ?_, fun hq invalid => ?_, fun hq valid => ?_⟩
  · exact commit (held.trans (if_pos (by simpa using (not_congr quiet_iff).2 busy)))
  · exact commit (held.trans ((if_neg (by simpa using quiet_iff.2 hq)).trans (if_pos (by simp [invalid]))))
  · intro closed
    have both (x : PortState) :
        ({ x.closedByCommit with
            events := if x.closedByCommit.inReset then x.closedByCommit.events
              else x.closedByCommit.events.raise .config } : PortState) = closed x := by
      change ({ x.closedByCommit with
            events := if x.inReset then x.closedByCommit.events else x.closedByCommit.events.raise .config } : PortState) = closed x
      cases hr : x.inReset <;> cases hs : x.aperture.stalled <;> simp [closed, PortState.closedByCommit, hr, hs]
    rw [commit (held.trans ((if_neg (by simpa using quiet_iff.2 hq)).trans (if_neg (by simp [valid]))))]
    unfold State.takeProfile State.startResetSequence State.raiseBoth
    rw [← resetTransaction_eq]
    simp only [State.closeByCommit_eq, State.raise_eq]
    rw [← both, ← both]
    rfl

end Sys2Proof.Machine
end

section
/-! SUPPORT. The validity of a staging record, field by field (R147, R152). -/

namespace Sys2Proof.Machine

namespace Profile

variable (prof : Profile)

theorem num_lt (f : ProfileField) : prof.num f < 256 := (prof.field f).isLt

theorem field_eq_absent_iff (f : ProfileField) : prof.field f = 0xFF ↔ prof.num f = 255 :=
  ⟨fun h => congrArg BitVec.toNat h, fun h => BitVec.eq_of_toNat_eq h⟩

theorem within_iff (f : ProfileField) (lo hi : Nat) : prof.within f lo hi = true ↔ lo ≤ prof.num f ∧ prof.num f ≤ hi := by
  simp only [within, Bool.and_eq_true, decide_eq_true_eq]

theorem within_zero_iff (f : ProfileField) (hi : Nat) : prof.within f 0 hi = true ↔ prof.num f ≤ hi := by
  simp only [within_iff, Nat.zero_le, true_and]

/-- Accepted values 1 to 255 leave out 0 alone. -/
theorem within_byte_iff (f : ProfileField) : prof.within f 1 255 = true ↔ prof.num f ≠ 0 := by
  have := prof.num_lt f
  rw [within_iff]
  omega

theorem optionalPosition_iff (f : ProfileField) : prof.optionalPosition f = true ↔ prof.num f ≤ 7 ∨ prof.num f = 255 := by
  simp only [optionalPosition, Bool.or_eq_true, decide_eq_true_eq]

theorem rangesValid_iff : prof.rangesValid = true ↔
    (1 ≤ prof.num .capacityCode ∧ prof.num .capacityCode ≤ 5 ∧ prof.num .sckDivider ≤ 3)
    ∧ (prof.num .readOp ≠ 0 ∧ prof.num .writeEnableOp ≠ 0 ∧ prof.num .pageProgramOp ≠ 0 ∧ prof.num .sectorEraseOp ≠ 0
        ∧ prof.num .blockEraseOp ≠ 0 ∧ prof.num .readStatusOp ≠ 0 ∧ prof.num .resetDeviceOp ≠ 0)
    ∧ (prof.num .busyBit ≤ 7 ∧ (prof.num .latchBit ≤ 7 ∨ prof.num .latchBit = 255)
        ∧ (prof.num .suspendedBit ≤ 7 ∨ prof.num .suspendedBit = 255))
    ∧ (prof.num .suspendSupported ≤ 1 ∧ prof.num .maxSuspends ≤ 15)
    ∧ (1 ≤ prof.num .programTimeout ∧ prof.num .programTimeout ≤ 63 ∧ prof.num .sectorTimeout ≠ 0
        ∧ prof.num .blockTimeout ≠ 0 ∧ prof.num .pollInterval ≠ 0 ∧ prof.num .suspendLatency ≠ 0 ∧ prof.num .minRun ≠ 0
        ∧ prof.num .maxDwell ≠ 0 ∧ prof.num .recoveryDelay ≠ 0 ∧ prof.num .maxHold ≠ 0)
    ∧ (1 ≤ prof.num .quotaA ∧ prof.num .quotaA ≤ 16 ∧ 1 ≤ prof.num .quotaB ∧ prof.num .quotaB ≤ 16) := by
  simp only [rangesValid, Bool.and_eq_true, List.all_cons, List.all_nil, Bool.and_true, within_zero_iff, within_byte_iff,
    optionalPosition_iff]
  simp only [within_iff, and_assoc]

theorem suspendOpcodesValid_iff : prof.suspendOpcodesValid = true ↔
    (prof.num .suspendSupported = 1 → prof.num .suspendOp ≠ 0 ∧ prof.num .resumeOp ≠ 0) := by
  simp only [suspendOpcodesValid, Bool.or_eq_true, Bool.and_eq_true, decide_eq_true_eq]
  exact imp_iff_not_or.symm

/-- A position in its accepted values that is not 0xFF is a bit position. -/
theorem namesLatch_iff (h : prof.num .latchBit ≤ 7 ∨ prof.num .latchBit = 255) :
    prof.namesLatch = true ↔ prof.num .latchBit ≤ 7 := by
  simp only [namesLatch, decide_eq_true_eq, ne_eq, field_eq_absent_iff]
  omega

theorem namesSuspended_iff (h : prof.num .suspendedBit ≤ 7 ∨ prof.num .suspendedBit = 255) :
    prof.namesSuspended = true ↔ prof.num .suspendedBit ≤ 7 := by
  simp only [namesSuspended, decide_eq_true_eq, ne_eq, field_eq_absent_iff]
  omega

theorem positionsDistinct_iff (latch : prof.num .latchBit ≤ 7 ∨ prof.num .latchBit = 255)
    (suspended : prof.num .suspendedBit ≤ 7 ∨ prof.num .suspendedBit = 255) :
    prof.positionsDistinct = true ↔
      (prof.num .latchBit ≤ 7 → prof.num .latchBit ≠ prof.num .busyBit)
      ∧ (prof.num .suspendedBit ≤ 7 → prof.num .suspendedBit ≠ prof.num .busyBit)
      ∧ (prof.num .latchBit ≤ 7 → prof.num .suspendedBit ≤ 7 → prof.num .latchBit ≠ prof.num .suspendedBit) := by
  simp only [positionsDistinct, Bool.or_eq_true, Bool.and_eq_true, Bool.not_eq_true', decide_eq_true_eq,
    ← Bool.not_eq_true, prof.namesLatch_iff latch, prof.namesSuspended_iff suspended, imp_iff_not_or, and_assoc, or_assoc]

end Profile

/-- Settles O26: the three parts of the validity, each as its rule lists it. -/
theorem profileValidity : Obligations.ProfileValidity := by
  unfold Obligations.ProfileValidity
  refine ⟨fun prof => ?_, ?_⟩
  · have parts : prof.valid = true ↔
        prof.rangesValid = true ∧ prof.suspendOpcodesValid = true ∧ prof.positionsDistinct = true := by
      simp only [Profile.valid, Bool.and_eq_true, and_assoc]
    rw [parts, Profile.rangesValid_iff, Profile.suspendOpcodesValid_iff]
    constructor
    · rintro ⟨⟨size, opcodes, ⟨busy, latch, suspended⟩, rest⟩, supported, distinct⟩
      have := (prof.positionsDistinct_iff latch suspended).1 distinct
      exact ⟨size, opcodes, ⟨busy, latch, suspended⟩, rest.1, rest.2.1, rest.2.2, supported, this⟩
    · rintro ⟨size, opcodes, ⟨busy, latch, suspended⟩, counts, times, quotas, supported, distinct⟩
      exact ⟨⟨size, opcodes, ⟨busy, latch, suspended⟩, counts, times, quotas⟩, supported,
        (prof.positionsDistinct_iff latch suspended).2 distinct⟩
  · decide +kernel

end Sys2Proof.Machine
end

section
/-! SUPPORT. The configuration index space: what an index names, and CFGDATA's accesses (R120, R127, R150, R187). -/

namespace Sys2Proof.Machine

namespace CfgIndex

variable {x : Byte}

theorem ofByte_profileStaging {i : Fin 29} (h : x.toNat = i.val) : ofByte x = .profileStaging i := by
  refine (if_pos (by omega)).trans (congrArg _ (Fin.ext ?_))
  rw [Fin.val_ofNat, h, Nat.mod_eq_of_lt i.isLt]

theorem ofByte_regionStaging {i : Fin 8} (h : x.toNat = 0x20 + i.val) : ofByte x = .regionStaging i := by
  simp only [ofByte, Bool.and_eq_true, decide_eq_true_eq]
  rw [if_neg (by omega), if_pos (by omega)]
  refine congrArg _ (Fin.ext ?_)
  rw [Fin.val_ofNat]
  omega

theorem ofByte_defaultsStaging {i : Fin 3} (h : x.toNat = 0x28 + i.val) : ofByte x = .defaultsStaging i := by
  simp only [ofByte, Bool.and_eq_true, decide_eq_true_eq]
  rw [if_neg (by omega), if_neg (by omega), if_pos (by omega)]
  refine congrArg _ (Fin.ext ?_)
  rw [Fin.val_ofNat]
  omega

theorem ofByte_profileView {i : Fin 29} (h : x.toNat = 0x40 + i.val) : ofByte x = .profileView i := by
  simp only [ofByte, Bool.and_eq_true, decide_eq_true_eq]
  rw [if_neg (by omega), if_neg (by omega), if_neg (by omega), if_pos (by omega)]
  refine congrArg _ (Fin.ext ?_)
  rw [Fin.val_ofNat]
  omega

theorem ofByte_defaultsView {i : Fin 3} (h : x.toNat = 0x78 + i.val) : ofByte x = .defaultsView i := by
  simp only [ofByte, Bool.and_eq_true, decide_eq_true_eq]
  rw [if_neg (by omega), if_neg (by omega), if_neg (by omega), if_neg (by omega), if_pos (by omega)]
  refine congrArg _ (Fin.ext ?_)
  rw [Fin.val_ofNat]
  omega

theorem ofByte_entryView {n : Fin 16} {i : Fin 8} (h : x.toNat = 0x80 + 8 * n.val + i.val) : ofByte x = .entryView n i := by
  simp only [ofByte, Bool.and_eq_true, decide_eq_true_eq]
  rw [if_neg (by omega), if_neg (by omega), if_neg (by omega), if_neg (by omega), if_neg (by omega), if_pos (by omega)]
  refine congrArg₂ _ (Fin.ext ?_) (Fin.ext ?_) <;>
  · rw [Fin.val_ofNat]
    omega

theorem ofByte_unassigned (h : (0x1D ≤ x.toNat ∧ x.toNat ≤ 0x1F) ∨ (0x2B ≤ x.toNat ∧ x.toNat ≤ 0x3F)
    ∨ (0x5D ≤ x.toNat ∧ x.toNat ≤ 0x77) ∨ (0x7B ≤ x.toNat ∧ x.toNat ≤ 0x7F)) : ofByte x = .unassigned := by
  simp only [ofByte, Bool.and_eq_true, decide_eq_true_eq]
  rw [if_neg (by omega), if_neg (by omega), if_neg (by omega), if_neg (by omega), if_neg (by omega), if_neg (by omega)]

theorem isStaging_ofByte (x : Byte) :
    (ofByte x).isStaging = true ↔ x.toNat ≤ 0x1C ∨ (0x20 ≤ x.toNat ∧ x.toNat ≤ 0x2A) := by
  simp only [ofByte, Bool.and_eq_true, decide_eq_true_eq]
  split_ifs <;> simp only [isStaging, true_iff, Bool.false_eq_true, false_iff] <;> omega

end CfgIndex

theorem State.profileViewByte_of_none {s : State} (h : s.profile.committed = none) (i : Fin 29) :
    s.profileViewByte i = if i = 0x1B ∨ i = 0x1C then 8 else 0 := by
  have quota : 0x1B ≤ i.val ↔ i = 0x1B ∨ i = 0x1C := by
    simp only [Fin.ext_iff]
    change _ ↔ i.val = 27 ∨ i.val = 28
    omega
  simp only [State.profileViewByte, h, quota]

theorem flagByte_or (a b : Bool) : flagByte a 0 ||| flagByte b 1 = (if a then 1 else 0) + (if b then 2 else 0) := by
  cases a <;> cases b <;> rfl

theorem byteOf_sector_one (x : BitVec 12) : byteOf x 1 = (x.extractLsb' 8 4).setWidth 8 := by
  refine BitVec.eq_of_toNat_eq ?_
  have := x.isLt
  simp only [byteOf, BitVec.toNat_setWidth, BitVec.toNat_ushiftRight, BitVec.extractLsb'_toNat, Nat.shiftRight_eq_div_pow]
  omega

/-- A taken write of CFGDATA by the kind of index and the authority (R187). -/
theorem exec_cfgdataWrite {p : Port} {s : State} (v : Byte) (ht : s.accessTaken p = true) :
    exec (.cfgdataWrite p v) s
      = .next (if (CfgIndex.ofByte (s.port p).cfgIdx).isStaging then
          if s.hasAuthority p then (s.setStaging (s.port p).cfgIdx v).advanceCfgIdx p
          else (s.setResult p .refusedAuthority).advanceCfgIdx p
        else s.advanceCfgIdx p) :=
  congrArg _ (State.access_of_taken ht _)

/-- Settles O29: the accesses by the index, and the byte at each index of the space. -/
theorem configurationWindow : Obligations.ConfigurationWindow := by
  unfold Obligations.ConfigurationWindow
  refine ⟨fun p v s ht => ?_, fun s x => ⟨fun i h => ?_, fun i h => ?_, fun i h => ?_, fun i h => ⟨fun prof hc => ?_, fun hc => ?_⟩,
    fun h => ?_, fun h => ?_, fun h => ?_, fun n => ?_, fun h => ?_⟩⟩
  · intro x staging advanced
    have advance {t : State} (h : (t.port p).cfgIdx = x) : t.advanceCfgIdx p = advanced t :=
      State.modPort_congr (by rw [h])
    have named : (CfgIndex.ofByte (s.port p).cfgIdx).isStaging = true ↔ staging := CfgIndex.isStaging_ofByte x
    have store (a : s.profile.authority = some p) (hs : staging) :
        exec (.cfgdataWrite p v) s = .next ((s.setStaging x v).advanceCfgIdx p) := by
      rw [exec_cfgdataWrite v ht, if_pos (named.2 hs), if_pos ((s.hasAuthority_iff p).2 a)]
    refine ⟨?_, fun h => ?_, fun h a => ?_, fun a => ⟨fun i h => ?_, fun i h => ?_, fun i h => ?_⟩⟩
    · refine congrArg _ ((State.access_of_taken ht _).trans (advance ?_))
      rw [State.drive, State.port_modPort]
    · rw [exec_cfgdataWrite v ht, if_neg (by rwa [named]), advance rfl]
    · rw [exec_cfgdataWrite v ht, if_pos (named.2 h), if_neg (by rwa [State.hasAuthority_iff])]
      refine congrArg _ (advance ?_)
      rw [State.setResult, State.port_modPort]
    · rw [store a (.inl (by omega)), State.setStaging, CfgIndex.ofByte_profileStaging h]
      exact congrArg _ (advance rfl)
    · rw [store a (.inr (by omega)), State.setStaging, CfgIndex.ofByte_regionStaging h]
      exact congrArg _ (advance rfl)
    · rw [store a (.inr (by omega)), State.setStaging, CfgIndex.ofByte_defaultsStaging h]
      exact congrArg _ (advance rfl)
  · rw [State.cfgByte, CfgIndex.ofByte_profileStaging h]
  · rw [State.cfgByte, CfgIndex.ofByte_regionStaging h]
  · rw [State.cfgByte, CfgIndex.ofByte_defaultsStaging h]
  · rw [State.cfgByte, CfgIndex.ofByte_profileView h]
    simp only [State.profileViewByte, hc]
  · rw [State.cfgByte, CfgIndex.ofByte_profileView h]
    exact State.profileViewByte_of_none hc i
  · rw [State.cfgByte, CfgIndex.ofByte_defaultsView (i := 0) (by rw [h]; rfl)]; rfl
  · rw [State.cfgByte, CfgIndex.ofByte_defaultsView (i := 1) (by rw [h]; rfl)]; rfl
  · rw [State.cfgByte, CfgIndex.ofByte_defaultsView (i := 2) (by rw [h]; rfl)]; rfl
  · intro e at_
    have view (i : Fin 8) (h : at_ i.val) : s.cfgByte x = e.viewByte n i := by
      rw [State.cfgByte, CfgIndex.ofByte_entryView h]
    refine ⟨view 0, fun h => ?_, view 2, fun h => (view 3 h).trans (byteOf_sector_one _), view 4,
      fun h => (view 5 h).trans (byteOf_sector_one _), view 6, view 7⟩
    rw [view 1 h, ← flagByte_or]
    rfl
  · rw [State.cfgByte, CfgIndex.ofByte_unassigned h]

end Sys2Proof.Machine
end

section
/-! SUPPORT. The event unit: EVFLAGS, EVENABLE and INT#, and the coalescing of completions (R161 to R168). -/

namespace Sys2Proof.Machine

variable {p : Port} {s : State}

/-! ### Flags as bits -/

theorem Flag.bit_lt (f : Flag) : f.bit < 9 := by cases f <;> decide

theorem Flag.exists_bit {i : Nat} (h : i < 9) : ∃ f : Flag, f.bit = i := by
  interval_cases i
  exacts [⟨.done, rfl⟩, ⟨.halt, rfl⟩, ⟨.aperture, rfl⟩, ⟨.hold, rfl⟩, ⟨.fault, rfl⟩, ⟨.recovery, rfl⟩, ⟨.peerReset, rfl⟩,
    ⟨.bufferFreed, rfl⟩, ⟨.config, rfl⟩]

/-- Bit `f` of the byte written at the low offset, which names every flag but CONFIG. -/
theorem flagBits_low (v : Byte) (f : Flag) :
    (flagBits false v).getLsbD f.bit = (decide (f ≠ .config) && v.getLsbD f.bit) := by
  cases f <;> simp [flagBits, Flag.bit]

/-- Bit `f` of the byte written at the high offset, which names CONFIG alone. -/
theorem flagBits_high (v : Byte) (f : Flag) :
    (flagBits true v).getLsbD f.bit = (decide (f = .config) && v.getLsbD 0) := by
  cases f <;> simp [flagBits, Flag.bit]

theorem flagMask_low (f : Flag) : (flagMask false).getLsbD f.bit = decide (f ≠ .config) := by cases f <;> decide
theorem flagMask_high (f : Flag) : (flagMask true).getLsbD f.bit = decide (f = .config) := by cases f <;> decide

theorem EventUnit.has_raise (e : EventUnit) (f : Flag) : (e.raise f).has f = true := by
  have own : (1#9 <<< f.bit).getLsbD f.bit = true := by cases f <;> rfl
  simp only [EventUnit.has, EventUnit.raise, BitVec.getLsbD_or, own, Bool.or_true]

/-- INT# is asserted exactly by a flag whose enable is set (R163). -/
theorem EventUnit.intAsserted_iff (e : EventUnit) :
    e.intAsserted = true ↔ ∃ f : Flag, e.has f = true ∧ e.enables.getLsbD f.bit = true := by
  simp only [EventUnit.intAsserted, decide_eq_true_eq, EventUnit.has, ← Bool.and_eq_true, ← BitVec.getLsbD_and]
  constructor
  · intro h
    by_contra none
    refine h (BitVec.eq_of_getLsbD_eq fun i hi => ?_)
    obtain ⟨f, rfl⟩ := Flag.exists_bit hi
    exact (Bool.eq_false_iff.2 fun hf => none ⟨f, hf⟩).trans BitVec.getLsbD_zero.symm
  · rintro ⟨f, hf⟩ h
    simp [h] at hf

theorem State.accessTaken_raise (s : State) (p q : Port) (f : Flag) : (s.raise p f).accessTaken q = s.accessTaken q := by
  rw [State.raise_eq]
  cases p <;> cases q <;> rfl

theorem exec_evflagsWrite (high : Bool) (v : Byte) (ht : s.accessTaken p = true) :
    exec (.evflagsWrite p high v) s = .next (writeEvflags p high v s) := congrArg _ (State.access_of_taken ht _)

theorem exec_evenableWrite (high : Bool) (v : Byte) (ht : s.accessTaken p = true) :
    exec (.evenableWrite p high v) s = .next (writeEvenable p high v s) := congrArg _ (State.access_of_taken ht _)

/-- Settles O30: the flags and enables bit by bit, INT#, and both orders of a notice and the write that clears it. -/
theorem eventFlagWrites : Obligations.EventFlagWrites := by
  unfold Obligations.EventFlagWrites
  refine ⟨fun p v s ht => ?_, fun p s => ?_, fun p f v s ht low written => ⟨?_, ?_⟩⟩
  · let flags (high : Bool) := (s.events p).flags &&& ~~~flagBits high v
    let enables (high : Bool) := ((s.events p).enables &&& ~~~flagMask high) ||| flagBits high v
    refine ⟨flags false, flags true, enables false, enables true, exec_evflagsWrite false v ht, exec_evflagsWrite true v ht,
      exec_evenableWrite false v ht, exec_evenableWrite true v ht, fun f => ?_⟩
    have hf := f.bit_lt
    simp only [flags, enables, BitVec.getLsbD_and, BitVec.getLsbD_or, BitVec.getLsbD_not, flagBits_low, flagBits_high,
      flagMask_low, flagMask_high, EventUnit.has, hf, decide_true, Bool.true_and]
    by_cases h : f = .config <;> simp [h]
  · simp only [State.intLow, Bool.and_eq_true, Bool.not_eq_true', EventUnit.intAsserted_iff]
    tauto
  · refine ⟨_, exec_evflagsWrite false v ((s.accessTaken_raise p p f).trans ht), ?_⟩
    have hf := f.bit_lt
    rw [writeEvflags, State.events, State.port_modPort]
    simp [EventUnit.has, flagBits_low, low, written]
  · refine ⟨_, exec_evflagsWrite false v ht, ?_⟩
    have out : ((writeEvflags p false v s).port p).inReset = false := by
      rw [writeEvflags, State.port_modPort]
      exact State.accessTaken_inReset ht
    rw [State.raise_eq, State.events, State.port_modPort, out]
    exact EventUnit.has_raise _ f

/-! ### Coalescing -/

theorem EventUnit.coalesce_notice {e : EventUnit} {k : Nat} (h : e.holdoff = 0 ∨ e.threshold.toNat ≤ e.pendingCount + k) :
    e.coalesce k = { e with flags := e.flags ||| 1#9, pendingCount := 0, holdoffTimer := none } := by
  unfold EventUnit.coalesce
  exact if_pos (by simpa using h)

theorem EventUnit.coalesce_wait {e : EventUnit} {k : Nat} (on : e.holdoff ≠ 0) (below : e.pendingCount + k < e.threshold.toNat) :
    e.coalesce k = { e with
      pendingCount := e.pendingCount + k
      holdoffTimer := if e.holdoffTimer.isSome then e.holdoffTimer else startTimer (e.holdoff.toNat * 10) } := by
  unfold EventUnit.coalesce
  refine (if_neg ?_).trans ?_
  · simpa using ⟨on, below⟩
  · simp only
    split <;> rfl

/-- Settles O31: the three outcomes of a completion, and the holdoff's expiry. -/
theorem completionsAreCoalesced : Obligations.CompletionsAreCoalesced := by
  unfold Obligations.CompletionsAreCoalesced
  intro notice
  refine ⟨fun e k => ⟨fun h => ?_, fun h => ?_, fun on below => ⟨fun stopped => ?_, fun runs => ?_⟩⟩, fun p s => ⟨fun h => ?_, fun h => ?_⟩⟩
  · exact EventUnit.coalesce_notice (.inl h)
  · exact EventUnit.coalesce_notice (.inr h)
  · rw [EventUnit.coalesce_wait on below, stopped]
    rfl
  · rw [EventUnit.coalesce_wait on below, if_pos runs]
  · exact congrArg _ (if_pos h)
  · exact congrArg _ (if_neg h)

end Sys2Proof.Machine
end

section
/-! SUPPORT. RECOVER, the reset sequence, the write-enable and command transactions, and the suspend request (R37, R38, R52,
R54, R55, R74, R75). -/

namespace Sys2Proof.Machine

variable {s : State}

/-! ### RECOVER -/

theorem exec_recover_of_fault {p : Port} (ht : s.accessTaken p = true) (h : s.seq.state = .fault) :
    exec (.recover p) s = .next ((s.startResetSequence .recovering).setResult p .accepted) :=
  exec_of_body (f := recoverBody) ht rfl (if_pos h)

theorem exec_recover_of_not_fault {p : Port} (ht : s.accessTaken p = true) (h : s.seq.state ≠ .fault) :
    exec (.recover p) s = .next (s.setResult p .refusedState) :=
  exec_of_body (f := recoverBody) ht rfl (if_neg h)

/-- Settles O33: RECOVER in FAULT, in every other state, and twice. -/
theorem recoverStartsTheResetSequence : Obligations.RecoverStartsTheResetSequence := by
  unfold Obligations.RecoverStartsTheResetSequence
  intro p s ht
  refine ⟨fun h => ?_, exec_recover_of_not_fault ht, fun h peer t first => ?_⟩
  · rw [exec_recover_of_fault ht h, ← resetTransaction_eq]
    rfl
  · obtain rfl := Host.Outcome.next.inj ((exec_recover_of_fault ht h).symm.trans first)
    refine exec_recover_of_not_fault ?_ nofun
    rw [State.setResult_accessTaken]
    exact peer

/-! ### The ends of the transactions on the line -/

/-- At the end of a transaction of the reset sequence (R52). -/
theorem State.onResetEnd_onLine {t : Transaction} {left : Nat} (hl : s.seq.line = .onLine t left)
    (hq : s.seq.state = .initializing ∨ s.seq.state = .recovering) (f : State → State) : s.onResetEnd t f = f (s.lineEnded left) := by
  have he := (State.endTransaction_eq_some s _ t).2 ⟨left, hl, rfl⟩
  simp only [State.onResetEnd, he]
  rcases hq with hq | hq <;> simp [hq, SeqState.resetting]

theorem Profile.namesLatch_eq_true (prof : Profile) : prof.namesLatch = true ↔ prof.field .latchBit ≠ 0xFF := decide_eq_true_iff

theorem Profile.namesSuspended_eq_true (prof : Profile) : prof.namesSuspended = true ↔ prof.field .suspendedBit ≠ 0xFF :=
  decide_eq_true_iff

/-- Settles O37: the latch check by the profile, its outcome by the latch bit. -/
theorem writeEnableIsChecked : Obligations.WriteEnableIsChecked := by
  unfold Obligations.WriteEnableIsChecked
  intro s r left status hq ha s1 latch
  refine ⟨fun hl => ⟨fun absent => ?_, fun named => ?_⟩, fun hl => ⟨fun set => ?_, fun clear => ?_⟩⟩
  · refine congrArg _ ((State.onOperationEnd_onLine hl hq ha _).trans (congrArg s1.callLine (if_neg ?_)))
    exact fun names => (s.prof.namesLatch_eq_true.1 names) absent
  · exact congrArg _ ((State.onOperationEnd_onLine hl hq ha _).trans
      (congrArg s1.callLine (if_pos (s.prof.namesLatch_eq_true.2 named))))
  · exact congrArg _ ((State.onOperationEnd_onLine hl hq ha _).trans (if_pos set))
  · exact congrArg _ ((State.onOperationEnd_onLine hl hq ha _).trans (if_neg (Bool.eq_false_iff.1 clear)))

/-- A run that has not reached the minimum raises no request (R74). -/
theorem State.evaluateSuspend_of_short {r : OpRecord} (ha : s.seq.active = some r) (short : r.runTime < s.minRunCycles) :
    s.evaluateSuspend = s := by
  have no : s.suspendable = false := by
    simp [State.suspendable, ha, short]
  exact if_neg (by simp [no])

/-- Settles O38: BUSYWAIT begins with the poll timer, and its expiry calls for a poll. -/
theorem busyPhaseBeginsAndPolls : Obligations.BusyPhaseBeginsAndPolls := by
  unfold Obligations.BusyPhaseBeginsAndPolls
  intro s r left ha run busy
  have some_run : 0 < s.minRunCycles := by
    simp only [State.minRunCycles, Profile.minRunMicros, cyclesOfMicroseconds, Config.cyclesPerMicrosecond]
    omega
  have active (hq : s.seq.state.accumulates = false) : (s.lineEnded left).seq.active = some r := by
    rw [State.lineEnded_active, hq]
    exact ha
  have modActive (f : OpRecord → OpRecord) (hq : s.seq.state.accumulates = false) :
      ((((s.lineEnded left).modActive f).setSeqState .busyWait).startPollTimer) = busy (f r) := by
    simp only [State.modActive, State.modSeq, active hq]
    rfl
  refine ⟨fun hq hl => ?_, fun hq hl => ?_, fun hq hp => ?_⟩
  · refine congrArg _ ((State.onOperationEnd_onLine hl hq ha _).trans ?_)
    rw [modActive _ (by rw [hq]; rfl)]
    exact State.evaluateSuspend_of_short rfl some_run
  · refine congrArg _ ((State.onOperationEnd_onLine hl hq ha _).trans ?_)
    rw [modActive _ (by rw [hq]; rfl)]
    exact State.evaluateSuspend_of_short rfl some_run
  · refine congrArg _ (?_ : expirePoll s = _)
    unfold expirePoll
    rw [hp]
    exact if_pos hq

/-- Settles O42: the reset sequence step by step, and its final status read in either state. -/
theorem resetSequenceRuns : Obligations.ResetSequenceRuns := by
  unfold Obligations.ResetSequenceRuns
  intro s left status s1 both fault busy
  refine ⟨fun hq => ⟨fun hl => ?_, fun hl => ?_, fun ht => ?_⟩, fun hq hl => ?_, fun hq hl => ?_⟩
  · exact congrArg _ (State.onResetEnd_onLine hl hq _)
  · exact congrArg _ (State.onResetEnd_onLine hl hq _)
  · refine congrArg _ (?_ : expireRecoveryDelay s = _)
    unfold expireRecoveryDelay
    rw [ht]
    refine if_pos ?_
    rcases hq with hq | hq <;> rw [hq] <;> rfl
  · have at_end : finishInitialization status s
        = if s.prof.busy status then (((s1.setSeqState .fault).countRecoveryFailure).raiseBoth .config).raiseBoth .fault
          else (s1.raiseBoth .config).enterIdle := by
      unfold finishInitialization
      rw [(State.endTransaction_eq_some s _ _).2 ⟨left, hl, rfl⟩]
      exact if_pos hq
    exact ⟨fun h => congrArg _ (at_end.trans (if_neg h)), fun h => congrArg _ (at_end.trans (if_pos h))⟩
  · have at_end : finishRecovery status s
        = if s.prof.busy status then ((s1.setSeqState .fault).countRecoveryFailure).recoveryCause .failed
          else (s1.recoveryCause .ok).enterIdle := by
      unfold finishRecovery
      rw [(State.endTransaction_eq_some s _ _).2 ⟨left, hl, rfl⟩]
      exact if_pos hq
    exact ⟨fun h => congrArg _ (at_end.trans (if_neg h)), fun h => congrArg _ (at_end.trans (if_pos h))⟩

/-! ### The suspend request -/

theorem State.readWaits_iff (s : State) : s.readWaits = true ↔ ∃ p, s.offers (.fill p) = true ∨ s.offers (.readHead p) = true := by
  simp only [State.readWaits, Bool.or_eq_true]
  constructor
  · rintro (((h | h) | h) | h)
    exacts [⟨.A, .inl h⟩, ⟨.A, .inr h⟩, ⟨.B, .inl h⟩, ⟨.B, .inr h⟩]
  · rintro ⟨p, h⟩
    cases p <;> tauto

/-- The conditions of R74 on the sequencer, the profile and the active record. -/
theorem State.suspendable_iff (s : State) :
    s.suspendable = true ↔ s.seq.state = .busyWait ∧ s.prof.field .suspendSupported = 1
      ∧ ∃ r, s.seq.active = some r ∧ r.kind.isWrite = true ∧ r.suspends < s.prof.num .maxSuspends ∧ r.unsuspendable = false
          ∧ s.minRunCycles ≤ r.runTime := by
  have supported : s.prof.num .suspendSupported = 1 ↔ s.prof.field .suspendSupported = 1 :=
    ⟨fun h => BitVec.eq_of_toNat_eq h, fun h => congrArg BitVec.toNat h⟩
  simp only [State.suspendable, Bool.and_eq_true, decide_eq_true_eq, supported, Option.any_eq_true, Bool.not_eq_true',
    and_assoc]

/-- A request is taken at once where the poll timer runs (R43, R75). -/
theorem State.evaluateSuspend_of_raised (clear : s.arbiter.suspendRequest = false) (can : s.suspendable = true)
    (waits : s.readWaits = true) :
    s.evaluateSuspend
      = if s.seq.pollTimer.isSome then
          s.modSeq fun q => { q with state := .suspending, pollTimer := none, line := .called .suspend, handshakeReads := 0 }
        else { s with arbiter := { s.arbiter with suspendRequest := true } } := by
  have unchanged : ({ s.arbiter with suspendRequest := false } : Arbiter) = s.arbiter := by rw [← clear]
  unfold State.evaluateSuspend
  rw [if_pos (by simp [clear, can, waits])]
  refine if_congr Iff.rfl ?_ rfl
  change ({ s with arbiter := { s.arbiter with suspendRequest := false }, seq := _ } : State) = _
  rw [unchanged]
  rfl

/-- Settles O40: the evaluation by its conditions, and the moment the run time reaches the minimum run. -/
theorem suspendRequestIsRaisedAndTaken : Obligations.SuspendRequestIsRaisedAndTaken := by
  unfold Obligations.SuspendRequestIsRaisedAndTaken
  refine ⟨fun s clear => ?_, fun s r ha hq => ?_⟩
  · intro conditions
    have conditions_iff : conditions ↔ s.suspendable = true ∧ s.readWaits = true := by
      rw [State.suspendable_iff, State.readWaits_iff, and_assoc, and_assoc]
      rfl
    refine ⟨fun h => ?_, fun h => ?_⟩
    · obtain ⟨can, waits⟩ := conditions_iff.1 h
      have raised := State.evaluateSuspend_of_raised clear can waits
      exact ⟨fun stopped => raised.trans (if_neg (by simp [stopped])), fun runs => raised.trans (if_pos runs)⟩
    · refine if_neg fun raised => h (conditions_iff.2 ?_)
      simp only [Bool.and_eq_true] at raised
      exact ⟨raised.1.2, raised.2⟩
  · refine congrArg _ (?_ : reachMinimumRun s = _)
    unfold reachMinimumRun
    rw [ha]
    exact if_pos hq

end Sys2Proof.Machine
end

section
/-! SUPPORT. The poll, the suspend handshake and the dwell (R39 to R48). -/

namespace Sys2Proof.Machine

variable {s : State} {r : OpRecord} {left : Nat} {status : Byte}

theorem evaluateCompletion_of_error (h : status &&& s.prof.field .errorMask ≠ 0) :
    evaluateCompletion r status s = s.complete r .flashFail status := if_pos (decide_eq_true h)

theorem evaluateCompletion_of_fine (h : status &&& s.prof.field .errorMask = 0) :
    evaluateCompletion r status s = s.complete r .ok 0 :=
  if_neg fun reports : decide (_ ≠ _) = true => (of_decide_eq_true reports) h

/-- The evaluation of a status byte that shows not busy (R40). -/
theorem evaluateCompletion_eq (r : OpRecord) (status : Byte) (s : State) :
    evaluateCompletion r status s
      = s.complete r (if status &&& s.prof.field .errorMask = 0 then .ok else .flashFail)
          (if status &&& s.prof.field .errorMask = 0 then 0 else status) := by
  by_cases h : status &&& s.prof.field .errorMask = 0
  · rw [evaluateCompletion_of_fine h, if_pos h, if_pos h]
  · rw [evaluateCompletion_of_error h, if_neg h, if_neg h]

/-- Settles O39: the poll's evaluation in the order of R39. -/
theorem pollDecidesTheOperation : Obligations.PollDecidesTheOperation := by
  unfold Obligations.PollDecidesTheOperation
  intro s r k left status hq ha hk hl s1 r1 dropped timeout
  have limit : s1.timeoutCycles r1.kind = timeout := by
    change s1.timeoutCycles r.kind = timeout
    rw [hk]
    cases k <;> rfl
  have poll : finishPoll status s
      = if !s.prof.busy status then (evaluateCompletion r1 status dropped).enterIdle
        else if s1.timeoutCycles r1.kind ≤ r1.busyTime then timeOut r1 dropped
        else if s.arbiter.suspendRequest then s1.takeSuspendRequest else s1.startPollTimer :=
    State.onOperationEnd_onLine hl hq ha _
  rw [limit] at poll
  refine ⟨fun idle => ?_, fun busy => ?_⟩
  · have done := poll.trans (if_pos (by rw [show s.prof.busy status = false from idle]; rfl))
    refine ⟨fun err => ?_, fun fine => ?_⟩
    · exact congrArg _ (done.trans (congrArg State.enterIdle (evaluateCompletion_of_error (s := dropped) err)))
    · exact congrArg _ (done.trans (congrArg State.enterIdle (evaluateCompletion_of_fine (s := dropped) fine)))
  · replace poll := poll.trans (if_neg (by rw [show s.prof.busy status = true from busy]; exact Bool.false_ne_true))
    refine ⟨fun late => ?_, fun within => ?_⟩
    · exact congrArg _ (poll.trans (if_pos late))
    · replace poll := poll.trans (if_neg (Nat.not_le.2 within))
      refine ⟨fun raised => ?_, fun clear => ?_⟩
      · exact congrArg _ (poll.trans (if_pos raised))
      · exact congrArg _ (poll.trans (if_neg (by simp [clear])))

/-! ### The handshake -/

/-- A handshake read in the order of R44, with the read counted. -/
theorem finishHandshakeRead_onLine (hl : s.seq.line = .onLine .handshake left) (hq : s.seq.state = .suspending)
    (ha : s.seq.active = some r) :
    finishHandshakeRead status s
      = let s2 := (s.lineEnded left).modSeq fun q => { q with handshakeReads := q.handshakeReads + 1 }
        if s.prof.busy status then if s.seq.handshakeReads + 1 < 8 then s2.startLatencyTimer else failHandshake s2
        else if s.prof.namesSuspended && !s.prof.indicatesSuspension status then
          (evaluateCompletion (r.elapse left) status s2).enterIdle
        else confirmSuspension (r.elapse left) s2 :=
  State.onOperationEnd_onLine hl hq ha _

theorem State.modActive_of_some (h : s.seq.active = some r) (f : OpRecord → OpRecord) :
    s.modActive f = s.modSeq fun q => { q with active := some (f r) } := by
  simp only [State.modActive, State.modSeq, h, Option.map_some]

/-- A device that shows neither busy nor suspended has finished the operation, where the profile names the indication (R46). -/
theorem finished_iff (prof : Profile) (status : Byte) :
    (prof.namesSuspended && !prof.indicatesSuspension status) = true
      ↔ prof.field .suspendedBit ≠ 0xFF ∧ status.getLsbD (prof.num .suspendedBit) = false := by
  rw [Bool.and_eq_true, Bool.not_eq_true', Profile.namesSuspended_eq_true]
  rfl

/-- Settles O41: the handshake by the status byte and the reads made, and the dwell timer's expiry. -/
theorem suspendHandshakeAndDwell : Obligations.SuspendHandshakeAndDwell := by
  unfold Obligations.SuspendHandshakeAndDwell
  refine ⟨fun s r left status hq ha => ?_, fun s x left ht hx => ?_, fun s ht => ?_⟩
  · intro s1 r1 reads latency finished
    refine ⟨fun hl => ?_, fun ht => ?_, fun hl => ?_⟩
    · exact congrArg _ (State.onOperationEnd_onLine hl hq ha _)
    · refine congrArg _ (?_ : expireLatency s = _)
      unfold expireLatency
      rw [ht]
      exact if_pos hq
    have read := finishHandshakeRead_onLine (status := status) hl hq ha
    have active : (reads id).seq.active = some r1 := by
      change (s.lineEnded left).seq.active = some r1
      rw [State.lineEnded_active, hq, ha]
      rfl
    have names : (s.prof.namesSuspended && !s.prof.indicatesSuspension status) = true ↔ finished := finished_iff s.prof status
    refine ⟨fun busy => ⟨fun more => ?_, fun last => ?_⟩, fun idle hf => ?_, fun idle hf => ?_⟩
    · exact congrArg _ (read.trans ((if_pos busy).trans (if_pos more)))
    · refine congrArg _ (read.trans ((if_pos busy).trans ((if_neg (Nat.not_lt.2 last)).trans ?_)))
      change failHandshake (reads id) = _
      unfold failHandshake
      rw [State.modActive_of_some active]
      rfl
    · refine congrArg _ (read.trans ((if_neg (Bool.eq_false_iff.1 idle)).trans ((if_pos (names.2 hf)).trans ?_)))
      rw [evaluateCompletion_eq]
      rfl
    · exact congrArg _ (read.trans ((if_neg (Bool.eq_false_iff.1 idle)).trans (if_neg (mt names.1 hf))))
  · intro due
    have expired : expireDwell s = if s.seq.state = .idle then due.grantPoint else due := by
      unfold expireDwell
      rw [ht, hx]
      rfl
    exact ⟨fun h => congrArg _ (expired.trans (if_neg h)), fun h => congrArg _ (expired.trans (if_pos h))⟩
  · refine congrArg _ (?_ : expireDwell s = _)
    unfold expireDwell
    rw [ht]

end Sys2Proof.Machine
end

section
/-! SUPPORT. The ends of the read transactions: READ, VERIFY and fill (R33 to R35, R105, R106). -/

namespace Sys2Proof.Machine

variable {s : State}

/-! ### READ and VERIFY -/

theorem fillBuffer_getElem_of_some {old : Vector Byte 256} {data : List Byte} {i : Fin 256} {v : Byte}
    (h : data[i.val]? = some v) : (fillBuffer old data)[i] = v := by
  simp [fillBuffer, h]

theorem fillBuffer_getElem_of_le {old : Vector Byte 256} {data : List Byte} {i : Fin 256} (h : data.length ≤ i.val) :
    (fillBuffer old data)[i] = old[i] := by
  simp [fillBuffer, List.getElem?_eq_none h]

theorem buffer_getElem? (buffer : Vector Byte 256) (i : Fin 256) : buffer[i.val]? = some buffer[i] :=
  Vector.getElem?_eq_getElem i.isLt

theorem firstMismatch_eq_some {buffer : Vector Byte 256} {data : List Byte} {i : Fin 256} (below : i.val < data.length)
    (differs : data[i.val]? ≠ some buffer[i]) (before : ∀ j : Fin 256, j < i → data[j.val]? = some buffer[j]) :
    firstMismatch buffer data = some i.val := by
  refine List.find?_range_eq_some.2 ⟨?_, List.mem_range.2 below, fun j hj => ?_⟩
  · rw [buffer_getElem?]
    exact decide_eq_true differs
  · have same := before ⟨j, hj.trans i.isLt⟩ hj
    rw [← buffer_getElem?] at same
    simpa using same

theorem firstMismatch_eq_none {buffer : Vector Byte 256} {data : List Byte} (short : data.length ≤ 256)
    (same : ∀ i : Fin 256, i.val < data.length → data[i.val]? = some buffer[i]) : firstMismatch buffer data = none := by
  refine List.find?_range_eq_none.2 fun j hj => ?_
  have := same ⟨j, hj.trans_le short⟩ hj
  rw [← buffer_getElem?] at this
  simpa using this

/-- Settles O35: the read transaction of a READ by byte, that of a VERIFY by its first mismatch. -/
theorem readAndVerifyComplete : Obligations.ReadAndVerifyComplete := by
  unfold Obligations.ReadAndVerifyComplete
  intro data s r b left hq ha hb hl len short s1
  refine ⟨fun hk => ⟨fillBuffer s.pool.bytes[b] data, ?_, fun i v => fillBuffer_getElem_of_some, fun i => fillBuffer_getElem_of_le⟩,
    fun hk => ?_⟩
  · refine congrArg _ ((State.onOperationEnd_onLine hl hq ha _).trans ((if_pos ?_).trans ?_))
    · simpa [SeqState.accumulates, hk] using len
    · change (State.complete (match r.buffer with | some b => _ | none => _) r .ok 0).enterIdle = _
      rw [hb]
      rfl
  · have verify : finishVerify data s
        = (s1.complete { r with mismatch := firstMismatch s.pool.bytes[b] data }
            (verifyOutcome (firstMismatch s.pool.bytes[b] data)).1 (verifyOutcome (firstMismatch s.pool.bytes[b] data)).2).enterIdle := by
      refine (State.onOperationEnd_onLine hl hq ha _).trans ((if_pos ?_).trans ?_)
      · simpa [SeqState.accumulates, hk] using len
      · simp only [SeqState.accumulates, Bool.false_eq_true, if_false, hb, Option.bind_some]
        rfl
    refine ⟨fun i below differs before => ?_, fun same => ?_⟩
    · rw [firstMismatch_eq_some below differs before] at verify
      exact congrArg _ verify
    · rw [firstMismatch_eq_none short same] at verify
      exact congrArg _ verify

/-! ### Fills -/

theorem Aperture.endAtCapacity_eq {a : Aperture} (h : a.state = .opened) (capacity : Nat) :
    a.endAtCapacity capacity = { a with state := if a.fifo = [] ∧ a.fetch = capacity then .ended else .opened } := by
  unfold Aperture.endAtCapacity
  simp only [h, decide_true, Bool.true_and, Bool.and_eq_true, decide_eq_true_eq, List.isEmpty_iff]
  split
  · rfl
  · rw [← h]

section
variable {p : Port} {g : Option (BitVec 16)} {data : List Byte}

theorem State.fillArrival_of_stale (h : g ≠ some (s.aperture p).generation) :
    s.fillArrival p g data = s.modAperture p fun x => { x with inFlight := false } :=
  if_neg (by simp [h])

theorem State.fillArrival_of_current (hg : g = some (s.aperture p).generation) (ho : (s.aperture p).state = .opened)
    (hs : (s.aperture p).stalled = false) :
    s.fillArrival p g data = s.modAperture p fun x => Aperture.endAtCapacity s.capacity
      { x with inFlight := false, fifo := x.fifo ++ data, fetch := x.fetch + data.length } := by
  refine (if_pos (by simp [hg, ho])).trans ?_
  rw [hs]

theorem State.fillArrival_of_stalled {first : Byte} {rest : List Byte} (hg : g = some (s.aperture p).generation)
    (ho : (s.aperture p).state = .opened) (hs : (s.aperture p).stalled = true) :
    s.fillArrival p g (first :: rest) = (s.endStall p (some first)).modAperture p fun x => Aperture.endAtCapacity s.capacity
      { x with inFlight := false, current := x.current + 1, fifo := x.fifo ++ rest, fetch := x.fetch + (first :: rest).length } := by
  refine (if_pos (by simp [hg, ho])).trans ?_
  rw [hs]

end

/-- Settles O36: the hand-over of a fill, and its arrival by generation and stall. -/
theorem fillArrivesAtItsAperture : Obligations.FillArrivesAtItsAperture := by
  unfold Obligations.FillArrivesAtItsAperture
  refine ⟨fun data s r left hq ha hk hl len => ?_, fun s p g data => ?_⟩
  · intro s1
    have fill : finishFill data s = ((s1.deliverFill r data).holdNotice r.source.port).enterIdle := by
      refine (State.onOperationEnd_onLine hl hq ha _).trans (if_pos ?_)
      simpa [SeqState.accumulates, hk] using len
    have ends (t : State) (h : s1.deliverFill r data = t) :
        exec (.fillTransactionEnd data) s = .next ((t.holdNotice r.source.port).enterIdle) :=
      congrArg _ (fill.trans (by rw [h]))
    exact ⟨fun h => ends _ (if_pos h), fun h => ends _ (if_neg (Bool.eq_false_iff.1 h))⟩
  · intro a ended
    refine ⟨State.fillArrival_of_stale, fun hg ho => ⟨fun hs => ?_, fun first rest hs hd => ?_⟩⟩
    · rw [State.fillArrival_of_current hg ho hs]
      refine State.modPort_congr (congrArg (fun x => ({ s.port p with aperture := x } : PortState)) ?_)
      exact Aperture.endAtCapacity_eq (by exact ho) s.capacity
    · subst hd
      rw [State.fillArrival_of_stalled hg ho hs, State.endStall_eq, State.modAperture, State.modPort_modPort]
      refine State.modPort_congr (congrArg (fun x => ({ s.port p with dataOut := some first, aperture := x } : PortState)) ?_)
      exact Aperture.endAtCapacity_eq (by exact ho) s.capacity

end Sys2Proof.Machine
end

section
/-! SUPPORT. The flash line: how long a transaction lasts, what it sends, and the pins (R27, R28). -/

namespace Sys2Proof.Machine

variable {s : State} {t : Transaction}

/-! ### How long a transaction lasts -/

theorem State.transactionCycles_of_active {r : OpRecord} (h : s.seq.active = some r) (t : Transaction) :
    s.transactionCycles t = transactionBits t r.kind r.range.length * 2 ^ (s.prof.num .sckDivider + 1) := by
  simp only [State.transactionCycles, h, Profile.cyclesPerBit]

/-- A transaction whose bit count depends on no operation. -/
theorem State.transactionCycles_of_const {bits : Nat} (h : ∀ k n, transactionBits t k n = bits) :
    s.transactionCycles t = bits * 2 ^ (s.prof.num .sckDivider + 1) := by
  unfold State.transactionCycles
  split <;> rw [h] <;> rfl

theorem State.transactionCycles_elapse (s : State) (d : Nat) (f : Sequencer → Sequencer)
    (hf : ∀ q, (f q).active = q.active) (t : Transaction) :
    ((s.elapse d).modSeq f).transactionCycles t = s.transactionCycles t := by
  have active : ((s.elapse d).modSeq f).seq.active
      = if s.seq.state.accumulates then s.seq.active.map (OpRecord.elapse d) else s.seq.active := hf _
  have prof : ((s.elapse d).modSeq f).prof = s.prof := rfl
  simp only [State.transactionCycles, active, prof]
  cases s.seq.active <;> cases s.seq.state.accumulates <;> rfl

theorem exec_lineTransactionStart (h : s.seq.line = .called t) :
    exec .lineTransactionStart s
      = .next ((s.elapse s.seq.gap).modSeq fun q => { q with line := .onLine t (s.transactionCycles t) }) := by
  refine congrArg _ (?_ : beginTransaction s = _)
  unfold beginTransaction
  rw [h]

theorem exec_lineTransactionStart_of_not_called (h : ∀ t, s.seq.line ≠ .called t) :
    exec .lineTransactionStart s = .next s := by
  refine congrArg _ (?_ : beginTransaction s = _)
  unfold beginTransaction
  cases hl : s.seq.line with
  | called t => exact absurd hl (h t)
  | idle => rfl
  | onLine t left => rfl

/-! ### What a transaction sends -/

theorem byteOf_ofNat (a i : Nat) (h : i < 3) : byteOf (BitVec.ofNat 24 a) i = BitVec.ofNat 8 (a / 2 ^ (8 * i)) := by
  refine BitVec.eq_of_toNat_eq ?_
  simp only [byteOf, BitVec.toNat_setWidth, BitVec.toNat_ushiftRight, BitVec.toNat_ofNat, Nat.shiftRight_eq_div_pow]
  interval_cases i <;> omega

theorem addressBytes_eq (a : Nat) :
    addressBytes a = [BitVec.ofNat 8 (a / 65536), BitVec.ofNat 8 (a / 256), BitVec.ofNat 8 a] := by
  simp only [addressBytes, byteOf_ofNat a _ (show 2 < 3 by decide), byteOf_ofNat a _ (show 1 < 3 by decide),
    byteOf_ofNat a _ (show 0 < 3 by decide)]
  simp

theorem buffer_toList (s : State) (b : Fin 16) :
    (s.pool.bytes[b]).toList = (List.finRange 256).map fun i => s.bufferByte b i :=
  List.ext_getElem (by simp) fun i _ _ => by simp [State.bufferByte]

/-- Bit j of byte k sent, most significant bit first (R27). -/
theorem lineBits_getElem? (bytes : List Byte) (k j : Nat) (hj : j < 8) :
    (lineBits bytes)[8 * k + j]? = bytes[k]?.map fun byte => byte.getLsbD (7 - j) := by
  induction bytes generalizing k with
  | nil => simp [lineBits]
  | cons byte bytes ih =>
    have cons : lineBits (byte :: bytes) = (List.range 8).map (fun i => byte.getLsbD (7 - i)) ++ lineBits bytes := rfl
    rw [cons]
    cases k with
    | zero =>
      rw [List.getElem?_append_left (by simp; omega)]
      simp [hj]
    | succ k =>
      rw [List.getElem?_append_right (by simp; omega), List.getElem?_cons_succ, ← ih k]
      congr 1
      simp
      omega

/-! ### The pins -/

theorem State.linePins_of_idle (h : ∀ t left, s.seq.line ≠ .onLine t left) :
    s.linePins = { fcs := true, fsck := false, fmosi := false } := by
  unfold State.linePins
  cases hl : s.seq.line with
  | onLine t left => exact absurd hl (h t left)
  | idle => rfl
  | called t => rfl

/-- The pins in cycle `cycle` of bit `k` of a transaction. -/
theorem State.linePins_onLine {k cycle : Nat} (short : cycle < s.prof.cyclesPerBit)
    (within : k * s.prof.cyclesPerBit + cycle ≤ s.transactionCycles t)
    (h : s.seq.line = .onLine t (s.transactionCycles t - (k * s.prof.cyclesPerBit + cycle))) :
    s.linePins
      = { fcs := false
          fsck := 2 * cycle ≥ s.prof.cyclesPerBit
          fmosi := ((lineBits (s.sentBytes t))[k]?).getD false } := by
  have positive : 0 < s.prof.cyclesPerBit := by omega
  have spent : s.transactionCycles t - (s.transactionCycles t - (k * s.prof.cyclesPerBit + cycle))
      = k * s.prof.cyclesPerBit + cycle := by omega
  have bit : (k * s.prof.cyclesPerBit + cycle) / s.prof.cyclesPerBit = k := by
    rw [Nat.mul_comm, Nat.mul_add_div positive, Nat.div_eq_of_lt short, Nat.add_zero]
  have phase : (k * s.prof.cyclesPerBit + cycle) % s.prof.cyclesPerBit = cycle := by
    rw [Nat.mul_comm, Nat.mul_add_mod, Nat.mod_eq_of_lt short]
  unfold State.linePins
  rw [h]
  simp only [spent, bit, phase]

/-- Settles O34: the duration of each transaction, the bytes and bits it sends, and the pins. -/
theorem lineTransactionsBegin : Obligations.LineTransactionsBegin := by
  unfold Obligations.LineTransactionsBegin
  refine ⟨fun s t h => ?_, fun s => exec_lineTransactionStart_of_not_called, fun s => ?_, lineBits_getElem?, fun s => ⟨State.linePins_of_idle, ?_⟩⟩
  · intro divided
    have lasts {bits : Nat} (hc : s.transactionCycles t = bits * 2 ^ (s.prof.num .sckDivider + 1)) :
        exec .lineTransactionStart s = .next (divided bits) := by
      rw [exec_lineTransactionStart h, hc]
    refine ⟨fun ht => lasts ?_, fun ht => lasts ?_, fun r ha => ⟨fun ht => lasts ?_, fun ht hk => lasts ?_, fun ht hk => lasts ?_⟩,
      _, exec_lineTransactionStart h, ?_⟩
    · rcases ht with rfl | rfl | rfl | rfl | rfl <;> exact State.transactionCycles_of_const fun _ _ => rfl
    · rcases ht with rfl | rfl | rfl | rfl <;> exact State.transactionCycles_of_const fun _ _ => rfl
    · rw [State.transactionCycles_of_active ha, ht]; rfl
    · rw [State.transactionCycles_of_active ha, ht, hk]; rfl
    · rw [State.transactionCycles_of_active ha, ht]
      rcases hk with hk | hk <;> rw [hk] <;> rfl
    · exact congrArg (Line.onLine t) (s.transactionCycles_elapse _ _ (fun _ => rfl) t).symm
  · intro op
    refine ⟨rfl, rfl, rfl, rfl, rfl, fun t ht => ?_, fun r ha => ?_⟩
    · rcases ht with rfl | rfl | rfl | rfl <;> rfl
    · intro address
      have first : addressBytes r.range.first = address := addressBytes_eq _
      refine ⟨?_, fun b hk hb => ?_, fun hk => ?_, fun hk => ?_⟩
      · simp only [State.sentBytes, ha, first]; rfl
      · simp only [State.sentBytes, ha, hk, hb, first, buffer_toList]; rfl
      · simp only [State.sentBytes, ha, hk, first]; rfl
      · simp only [State.sentBytes, ha, hk, first]; rfl
  · intro t k cycle short spent within hl
    have pins := State.linePins_onLine (t := t) (k := k) (cycle := cycle) short within hl
    rw [pins]
    refine ⟨rfl, decide_eq_true_iff, fun bit hb => ?_, fun past => ?_⟩
    · simp only [hb, Option.getD_some]
    · simp only [List.getElem?_eq_none past, Option.getD_none]

end Sys2Proof.Machine
end


section
/-! SUPPORT. The port reset block by block (R181), and power-on reset (R184). -/

namespace Sys2Proof.Machine

variable {p : Port} {s : State}

/-! ### What the peer is told -/

theorem Flag.mask_getLsbD (f g : Flag) : (1#9 <<< f.bit).getLsbD g.bit = decide (f = g) := by cases f <;> cases g <;> rfl

theorem EventUnit.has_raise_eq (e : EventUnit) (f g : Flag) : (e.raise f).has g = (e.has g || decide (f = g)) := by
  simp only [EventUnit.has, EventUnit.raise, BitVec.getLsbD_or, Flag.mask_getLsbD]

/-- A port's record after a flag is raised for it (R173). -/
def PortState.told (f : Flag) (x : PortState) : PortState :=
  { x with events := if x.inReset then x.events else x.events.raise f }

/-- The peer's record after a port reset that gives up the authority or frees a buffer (R86, R159, R172). -/
def PortState.peerReset (lost freed : Bool) (x : PortState) : PortState :=
  let x1 := if lost then x.told .config else x
  (if freed then x1.toldFreed else x1).told .peerReset

/-- The peer takes no change but its marker and its flags. -/
theorem PortState.peerReset_frame (lost freed : Bool) (x : PortState) :
    x.peerReset lost freed = { x with
        claimRefused := !freed && x.claimRefused
        events := { x.events with flags := (x.peerReset lost freed).events.flags } } := by
  cases lost <;> cases freed <;> cases hr : x.inReset <;> cases hc : x.claimRefused <;>
    simp [PortState.peerReset, PortState.told, PortState.toldFreed, hr, hc, EventUnit.raise]

theorem PortState.peerReset_of_inReset (lost freed : Bool) {x : PortState} (h : x.inReset = true) :
    (x.peerReset lost freed).events = x.events := by
  cases lost <;> cases freed <;> cases hc : x.claimRefused <;>
    simp [PortState.peerReset, PortState.told, PortState.toldFreed, h, hc]

theorem PortState.peerReset_has (lost freed : Bool) {x : PortState} (h : x.inReset = false) (f : Flag) :
    (x.peerReset lost freed).events.has f
      = (x.events.has f || (lost && decide (Flag.config = f)) || (freed && x.claimRefused && decide (Flag.bufferFreed = f))
          || decide (Flag.peerReset = f)) := by
  cases lost <;> cases freed <;> cases hc : x.claimRefused <;>
    simp [PortState.peerReset, PortState.told, PortState.toldFreed, h, hc, EventUnit.has_raise_eq]

/-! ### The reset in each block -/

theorem State.dropHold_port (s : State) (p q : Port) : (s.dropHold p).port q = s.port q := by
  unfold State.dropHold; split <;> rfl

theorem State.port_congr {t u : State} (h : t.ports = u.ports) (q : Port) : t.port q = u.port q := congrArg (Both.get · q) h

theorem State.raise_told (s : State) (p : Port) (f : Flag) : s.raise p f = s.modPort p (PortState.told f) := s.raise_eq p f

theorem State.dropAuthority_port (s : State) (p : Port) : (s.dropAuthority p).port p = s.port p := by
  unfold State.dropAuthority
  split
  · rw [State.raise_told, State.port_modPort_of_peer]; rfl
  · rfl

theorem State.dropAuthority_port_peer (s : State) (p : Port) :
    (s.dropAuthority p).port p.peer = if s.hasAuthority p then (s.port p.peer).told .config else s.port p.peer := by
  unfold State.dropAuthority
  split
  · rw [State.raise_told, State.port_modPort]; rfl
  · rfl

theorem State.portReset_port (s : State) (p : Port) : (s.portReset p).port p = (s.port p).portReset := by
  unfold State.portReset
  simp only [State.raise_told, State.noticeFreed_eq]
  rw [State.port_modPort_of_peer]
  split
  · rw [State.port_modPort_of_peer, State.dropAuthority_port, State.dropHold_port]
    exact Eq.trans (State.port_congr (u := s.modPort p PortState.portReset) (by rfl) p) (s.port_modPort p _)
  · rw [State.dropAuthority_port, State.dropHold_port]
    exact Eq.trans (State.port_congr (u := s.modPort p PortState.portReset) (by rfl) p) (s.port_modPort p _)

theorem State.portReset_port_peer (s : State) (p : Port) :
    (s.portReset p).port p.peer = (s.port p.peer).peerReset (s.hasAuthority p) (s.portResetFrees p) := by
  unfold State.portReset
  simp only [State.raise_told, State.noticeFreed_eq]
  rw [State.port_modPort]
  have before (t : State) (hp : t.port p.peer = s.port p.peer) (ha : t.hasAuthority p = s.hasAuthority p) :
      (t.dropAuthority p).port p.peer
        = if s.hasAuthority p then (s.port p.peer).told .config else s.port p.peer := by
    rw [State.dropAuthority_port_peer, hp, ha]
  split
  · next freed =>
    rw [State.port_modPort, before _ ?_ ?_]
    · simp only [PortState.peerReset, freed, if_true]
    · rw [State.dropHold_port]; exact Eq.trans (State.port_congr (u := s.modPort p PortState.portReset) (by rfl) p.peer) (s.port_modPort_peer p _)
    · simp only [State.hasAuthority, State.dropHold_configuration]; rfl
  · next kept =>
    rw [before _ ?_ ?_]
    · simp only [PortState.peerReset, Bool.eq_false_iff.2 kept, Bool.false_eq_true, if_false]
    · rw [State.dropHold_port]; exact Eq.trans (State.port_congr (u := s.modPort p PortState.portReset) (by rfl) p.peer) (s.port_modPort_peer p _)
    · simp only [State.hasAuthority, State.dropHold_configuration]; rfl

theorem State.portReset_pool (s : State) (p : Port) : (s.portReset p).pool = { s.pool with holders := s.portResetHolders p } := by
  unfold State.portReset State.dropAuthority State.dropHold
  simp only
  split <;> split <;> split <;> simp

theorem State.portReset_rest (s : State) (p : Port) :
    (s.portReset p).counters = s.counters ∧ (s.portReset p).powerOnReset = s.powerOnReset := by
  unfold State.portReset State.dropAuthority State.dropHold
  simp only
  split <;> split <;> split <;> simp

theorem State.portResetFrees_iff (s : State) (p : Port) :
    s.portResetFrees p = true ↔ ∃ b, s.holder b ≠ .free ∧ (s.portReset p).holder b = .free := by
  simp only [State.portResetFrees, List.any_eq_true, List.mem_finRange, true_and, Bool.and_eq_true, decide_eq_true_eq,
    State.portReset_holder, State.portResetHolders, Fin.getElem_fin, Vector.getElem_ofFn]

theorem Sequencer.orphanFor_eq (p : Port) (q : Sequencer) :
    let mark := fun r : OpRecord => { r with orphan := r.orphan || r.source.port = p }
    q.orphanFor p = { q with
      active := q.active.map mark, suspended := q.suspended.map fun x => { x with op := mark x.op } } := by
  intro mark
  have same : OpRecord.orphanFor p = mark := by
    funext r
    unfold OpRecord.orphanFor
    split <;> simp [mark, *]
  simp only [Sequencer.orphanFor, same]

/-- Settles O43: the rows that take the port reset, and the port reset block by block. -/
theorem portReset : Obligations.PortReset := by
  unfold Obligations.PortReset
  refine ⟨fun p s => ⟨fun ht => ?_, fun on out => ?_, fun h => ?_, fun on => ?_, fun off => ?_⟩, fun p s => ?_⟩
  · exact congrArg _ (State.access_of_taken ht _)
  · exact congrArg _ (recogniseReset_of_taken on out)
  · exact congrArg _ (if_pos (by simpa using h))
  · exact congrArg _ (if_neg (by simp [on]))
  · exact congrArg _ (if_pos off)
  · intro t e e' freed mark
    have peer := s.portReset_port_peer p
    have freed_iff : s.portResetFrees p = true ↔ freed := s.portResetFrees_iff p
    have told : e' = ((s.port p.peer).peerReset (s.hasAuthority p) (s.portResetFrees p)).events :=
      congrArg PortState.events peer
    have frame : t.port p.peer = { s.port p.peer with
        claimRefused := !s.portResetFrees p && (s.port p.peer).claimRefused
        events := { e with flags := e'.flags } } := by
      rw [told]
      exact peer.trans (PortState.peerReset_frame _ _ _)
    refine ⟨s.portReset_port p, ?_, fun h => ?_, fun h => ?_, congrArg PortState.events frame, fun h => ?_, fun h => ?_,
      ?_, fun b => ?_, ?_, fun h => ?_, fun h => ?_, fun h => ?_, fun h => ?_,
      s.portReset_arbiter p, s.portReset_rest p⟩
    · rw [show e' = { e with flags := e'.flags } from congrArg PortState.events frame]
      rw [frame]
    · rw [frame, freed_iff.2 h]; rfl
    · rw [frame, Bool.eq_false_iff.2 (mt freed_iff.1 h)]; rfl
    · rw [told]; exact PortState.peerReset_of_inReset _ _ h
    · have has := PortState.peerReset_has (s.hasAuthority p) (s.portResetFrees p) h
      rw [← told] at has
      refine ⟨by simp [has], ?_, ?_, fun f h1 h2 h3 => ?_⟩
      · simp [has, State.hasAuthority_iff]; rfl
      · simp [has, freed_iff]; rfl
      · simp [has, h1.symm, h2.symm, h3.symm]; rfl
    · rw [show t.pool = _ from s.portReset_pool p]
    · rw [State.portReset_holder]
      cases s.holder b <;> rfl
    · rw [State.portReset_seq]
      exact Sequencer.orphanFor_eq p s.seq
    · rw [State.portReset_hold, State.dropHold, if_pos h]
    · rw [State.portReset_hold, State.dropHold, if_neg h]; rfl
    · simp only [t, State.portReset_configuration, State.dropAuthority, (s.hasAuthority_eq_false p).2 h, Bool.false_eq_true,
        if_false, and_self]
    · simp only [t, State.portReset_configuration, State.dropAuthority, (s.hasAuthority_iff p).2 h, if_true, State.raise_frame]
      exact ⟨rfl, rfl⟩

/-! ### Power-on reset -/

theorem State.reset_holder (b : Fin 16) : State.reset.holder b = .free := by simp [State.holder, State.reset, Pool.reset]

theorem Queue.reset_slots (n : Fin 8) : Queue.reset.slots[n] = .free := by simp [Queue.reset]

/-- Settles O44: POWER_ON_RESET and its end, and the power-on value of each field. -/
theorem powerOnReset : Obligations.PowerOnReset := by
  unfold Obligations.PowerOnReset
  refine ⟨fun s => rfl, fun lowA lowB s => ⟨fun h => congrArg _ (if_pos h), fun h => congrArg _ (if_neg (by simp [h]))⟩,
    fun p => ?_, fun b i => ⟨State.reset_holder b, by simp [State.bufferByte, State.reset, Pool.reset]⟩,
    ⟨rfl, rfl, rfl, rfl, rfl, rfl, rfl, rfl⟩, rfl, fun i => by simp [State.reset, RegionTable.reset, RegionEntry.reset], rfl,
    fun i => by simp [State.reset, RegionTable.reset], fun i => by simp [State.reset, RegionTable.reset],
    fun i => by simp [State.reset, ProfileUnit.reset], rfl, rfl, rfl, rfl⟩
  intro q a e x
  have port : x = .reset := by cases p <;> rfl
  have queue : q = .reset := State.reset_queue p
  have aperture : a = .reset := State.reset_aperture p
  have events : e = .reset := State.reset_events p
  have charge : State.reset.charge p = 0 := by simp [State.charge, State.reset_holder, Holder.chargedTo]
  rw [port, queue, aperture, events]
  exact ⟨Queue.reset_slots, rfl, rfl, rfl, rfl, rfl, rfl, rfl, rfl, rfl, rfl, rfl, rfl, rfl, rfl, rfl, rfl, rfl, rfl, rfl, rfl, rfl,
    rfl, rfl, rfl, rfl, rfl, rfl, rfl, rfl, rfl, rfl, rfl, rfl, rfl, State.reset_holdOf p, charge, rfl⟩

end Sys2Proof.Machine
end

section
/-! SUPPORT. A completion and its hand-over (R16, R17, R26, R50, R86, R136, R167). -/

namespace Sys2Proof.Machine

variable {p : Port} {s : State}

/-! ### What a completion does to its port's record -/

theorem State.notify_eq (s : State) (p : Port) (f : EventUnit → EventUnit) :
    s.notify p f = s.modPort p fun x => { x with events := if x.inReset then x.events else f x.events } := by
  have same : s.modPort p id = s := State.modPort_eq_self rfl
  rw [← same, State.notify_modPort, same]
  rfl

/-- A completion halts a RUNNING queue with halt-on-error on where its status is an error (R17). -/
def Queue.halts (q : Queue) (st : Status) : Bool := decide (q.state = .running) && (st.isError && q.haltOnError)

/-- The queue state after a completion (R17). -/
def Queue.stateAfter (q : Queue) (st : Status) : QueueState :=
  if q.halts st then .halted else if q.state = .stopping then .stopped else q.state

theorem State.queueAfterCompletion_eq (s : State) (p : Port) (st : Status) :
    s.queueAfterCompletion p st = s.modPort p fun x =>
      { x with
        queue := { x.queue with state := x.queue.stateAfter st }
        events := if x.queue.halts st && !x.inReset then x.events.raise .halt else x.events } := by
  have port : s.queue p = (s.port p).queue := rfl
  have stays (same : (s.port p).queue.stateAfter st = (s.port p).queue.state) (goes : (s.port p).queue.halts st = false) :
      (s.modPort p fun x =>
        { x with
          queue := { x.queue with state := x.queue.stateAfter st }
          events := if x.queue.halts st && !x.inReset then x.events.raise .halt else x.events }) = s :=
    State.modPort_eq_self (by rw [same, goes]; rfl)
  unfold State.queueAfterCompletion
  split
  · next running =>
    rw [port] at running
    split
    · next halts =>
      rw [port] at halts
      rw [State.raise, State.modQueue, State.notify_modPort]
      refine State.modPort_congr ?_
      cases hr : (s.port p).inReset <;> simp [Queue.stateAfter, Queue.halts, running, halts]
    · next goes =>
      rw [port, Bool.not_eq_true] at goes
      exact (stays (by simp [Queue.stateAfter, Queue.halts, running, goes]) (by simp [Queue.halts, goes])).symm
  · next stopping =>
    rw [port] at stopping
    refine State.modPort_congr ?_
    simp [Queue.stateAfter, Queue.halts, stopping]
  all_goals
    next still =>
      rw [port] at still
      exact (stays (by simp [Queue.stateAfter, Queue.halts, still]) (by simp [Queue.halts, still])).symm

/-- The event unit after one completion: coalesced, an error counted, a halt flagged (R17, R167, R169). -/
def EventUnit.afterCompletion (st : Status) (halts : Bool) (e : EventUnit) : EventUnit :=
  { e.coalesce 1 with
    flags := if halts then (e.coalesce 1).flags ||| 2#9 else (e.coalesce 1).flags
    errCnt := if st.isError then saturatingInc (e.coalesce 1).errCnt else (e.coalesce 1).errCnt }

theorem State.returnBuffer_port (s : State) (p q : Port) (op : SlotOp) : (s.returnBuffer p op).port q = s.port q := by simp

theorem State.returnBuffer_modPort (s : State) (p q : Port) (op : SlotOp) (f : PortState → PortState) :
    (s.modPort q f).returnBuffer p op = (s.returnBuffer p op).modPort q f := by
  unfold State.returnBuffer
  cases op.buffer <;> rfl

/-- A completion: the slot's buffer returns, and the port's ring and event unit change, nothing else (R15 to R17). -/
theorem State.finishSlot_eq {n : Fin 8} {op : SlotOp} (h : (s.queue p).slots[n].waiting = some op) (c : Completion) :
    s.finishSlot p n c = (s.returnBuffer p op).modPort p fun x =>
      { x with
        queue := { x.queue with slots := x.queue.slots.set n (.done op c), state := x.queue.stateAfter c.status }
        events := if x.inReset then x.events else x.events.afterCompletion c.status (x.queue.halts c.status) } := by
  have counted (t : State) : (if c.status.isError then t.countError p else t)
      = t.modPort p fun x => { x with
          events := if c.status.isError && !x.inReset then { x.events with errCnt := saturatingInc x.events.errCnt }
            else x.events } := by
    cases c.status.isError
    · exact (State.modPort_eq_self rfl).symm
    · rw [if_pos rfl, State.countError, State.notify_eq]
      refine State.modPort_congr ?_
      cases (t.port p).inReset <;> rfl
  unfold State.finishSlot
  rw [h]
  simp only [counted, State.queueAfterCompletion_eq, State.countCompletions, Nat.one_ne_zero, if_false, State.notify_eq,
    State.modQueue, State.returnBuffer_modPort, State.modPort_modPort]
  refine State.modPort_congr ?_
  rw [State.returnBuffer_port]
  have halts : ((s.port p).queue.setSlot n (.done op c)).halts c.status = (s.port p).queue.halts c.status := rfl
  have after : ((s.port p).queue.setSlot n (.done op c)).stateAfter c.status = (s.port p).queue.stateAfter c.status := rfl
  simp only [halts, after]
  cases hr : (s.port p).inReset <;> cases he : c.status.isError <;> cases hh : (s.port p).queue.halts c.status <;>
    simp [EventUnit.afterCompletion, Queue.setSlot, EventUnit.raise, Flag.bit, he]

/-! ### The hand-over -/

theorem Status.isError_iff (c : Status) : c.isError = true ↔ c ≠ .ok ∧ c ≠ .flushed := by cases c <;> simp [Status.isError]

theorem State.complete_of_owned {r : OpRecord} {n : Fin 8} (st : Status) (d : Byte) (owned : r.orphan = false)
    (hs : r.source = .queue p n) :
    s.complete r st d
      = ((s.modSeq fun q => { q with active := none }).finishSlot p n
          { status := st, detail := d, suspends := r.suspends }).holdNotice p := by
  unfold State.complete State.handOver
  rw [if_neg (by simp [owned]), hs]
  rfl

theorem State.complete_of_orphan {r : OpRecord} (st : Status) (d : Byte) (orphan : r.orphan = true) :
    s.complete r st d
      = (match r.buffer with
          | some b => ((s.modSeq fun q => { q with active := none }).setHolder b .free).buffersFreed
          | none => s.modSeq fun q => { q with active := none }).holdNotice r.source.port := by
  unfold State.complete State.handOver
  rw [if_pos orphan]
  cases r.buffer <;> rfl

theorem PortState.toldFreed_of_clear {x : PortState} (h : x.claimRefused = false) : x.toldFreed = x := if_neg (by simp [h])

theorem PortState.toldFreed_of_marked {x : PortState} (h : x.claimRefused = true) :
    x.toldFreed = { x with claimRefused := false, events := if x.inReset then x.events else x.events.raise .bufferFreed } :=
  if_pos h

theorem PortState.toldFreed_frame (x : PortState) : x.toldFreed = { x with events := x.toldFreed.events, claimRefused := false } := by
  cases hc : x.claimRefused
  · rw [PortState.toldFreed_of_clear hc, ← hc]
  · rw [PortState.toldFreed_of_marked hc]

theorem State.buffersFreed_port (s : State) (p : Port) : s.buffersFreed.port p = (s.port p).toldFreed := by
  rw [State.buffersFreed_eq]
  cases p <;> rfl

/-- The drain set of a hold pending on the peer is empty exactly when no record was issued for the port (R135). -/
theorem State.drained_peer_iff (s : State) (p : Port) :
    s.drained p.peer = true ↔ (∀ r, s.seq.active = some r → r.source.port ≠ p)
      ∧ ∀ x, s.seq.suspended = some x → x.op.source.port ≠ p := by
  rw [State.drained_iff, Port.peer_peer]
  constructor
  · exact fun h => ⟨fun r hr => h r (.inl hr), fun x hx => h _ (.inr ⟨x, hx, rfl⟩)⟩
  · rintro ⟨ha, hs⟩ r (hr | ⟨x, hx, rfl⟩)
    · exact ha r hr
    · exact hs x hx

theorem State.holdNotice_of_drained (pending : s.holdOf p.peer = .pending) (drained : s.drained p.peer = true) :
    s.holdNotice p = s.grantHold p.peer := if_pos (by simp [pending, drained])

theorem State.holdNotice_of_not (h : s.holdOf p.peer ≠ .pending ∨ ¬ s.drained p.peer = true) : s.holdNotice p = s := by
  refine if_neg ?_
  simp only [Bool.and_eq_true, decide_eq_true_eq, not_and_or]
  exact h

/-- Settles O45: the completed slot in its port, the hand-over by owner, the freed buffer's notice, and the drained hold. -/
theorem completionReachesItsOwner : Obligations.CompletionReachesItsOwner := by
  unfold Obligations.CompletionReachesItsOwner
  refine ⟨fun s p n op c h => ?_, Status.isError_iff, fun s r status detail => ?_, fun s => ?_, fun s p => ?_⟩
  · have waiting : (s.queue p).slots[n].waiting = some op := by rcases h with h | h <;> rw [h] <;> rfl
    intro t q e halts
    have run : t = _ := State.finishSlot_eq waiting c
    have port : t.port p = _ := (congrArg (State.port · p) run).trans (State.port_modPort _ p _)
    rw [State.returnBuffer_port] at port
    have halts_iff : (s.port p).queue.halts c.status = true ↔ halts := by
      simp only [Queue.halts, Bool.and_eq_true, decide_eq_true_eq]
      rfl
    have pool : t.pool = (s.returnBuffer p op).pool := by rw [run]; rfl
    refine ⟨?_, fun hb => ?_, fun b hb => ?_, fun hr => ?_, fun hr => ?_, ?_⟩
    · rw [State.queue, port]
      simp only [Queue.stateAfter, halts_iff]
      rfl
    · rw [pool, State.returnBuffer, hb]
    · rw [pool, State.returnBuffer, hb]
      rfl
    · rw [State.events, port]
      exact if_pos hr
    · rw [State.events, port]
      simp only [hr, Bool.false_eq_true, if_false, EventUnit.afterCompletion, halts_iff, saturatingInc]
      rfl
    · rw [State.queue, State.events, port, pool, run]
      unfold State.returnBuffer
      cases op.buffer <;> rfl
  · intro s1
    refine ⟨fun p n => State.complete_of_owned status detail, fun orphan => ⟨fun hb => ?_, fun b hb => ?_⟩⟩
    · rw [State.complete_of_orphan status detail orphan, hb]
    · rw [State.complete_of_orphan status detail orphan, hb]
  · intro t
    refine ⟨by simp only [t, State.buffersFreed_eq], fun p => ?_⟩
    have told : t.port p = (s.port p).toldFreed := s.buffersFreed_port p
    rw [State.events, State.events, told]
    refine ⟨PortState.toldFreed_frame _, fun h => ?_, fun marked out => ?_⟩
    · cases hc : (s.port p).claimRefused
      · rw [PortState.toldFreed_of_clear hc]
      · rw [PortState.toldFreed_of_marked hc]
        exact if_pos (h.resolve_left (by simp [hc]))
    · rw [PortState.toldFreed_of_marked marked]
      exact if_neg (by simp [out])
  · intro left held
    have left_iff : s.drained p.peer = true ↔ left := s.drained_peer_iff p
    exact ⟨fun pending hl => State.holdNotice_of_drained pending (left_iff.2 hl),
      fun h => State.holdNotice_of_not (h.imp_right (mt left_iff.1))⟩

end Sys2Proof.Machine
end

section
/-! SUPPORT. The region lookup and the start check (R115 to R118, R70), and the order of the grants (R67 to R69). -/

namespace Sys2Proof.Machine

variable {s : State}

/-! ### The lookup -/

theorem RegionTable.decider_eq_some {t : RegionTable} {sector : Nat} {i : Fin 16} (covers : t.entries[i].covers sector = true)
    (lowest : ∀ j, j < i → t.entries[j].covers sector = false) : t.decider sector = some i := by
  refine List.find?_eq_some_iff_getElem.2 ⟨covers, i.val, by simp, by simp, fun j hj => ?_⟩
  simpa using lowest ⟨j, by omega⟩ hj

theorem RegionTable.decider_eq_none {t : RegionTable} {sector : Nat} (h : ∀ i : Fin 16, t.entries[i].covers sector = false) :
    t.decider sector = none := by
  simpa [RegionTable.decider, List.find?_eq_none] using h

/-! ### The start check -/

/-- The sectors of a range are those of its addresses. -/
theorem Range.mem_sectors {r : Range} (h : 1 ≤ r.length) (x : Nat) :
    x ∈ r.sectors ↔ ∃ a, r.first ≤ a ∧ a < r.first + r.length ∧ a / 4096 = x := by
  simp only [Range.sectors, List.mem_range'_1]
  constructor
  · rintro ⟨above, below⟩
    exact ⟨max r.first (x * 4096), by omega, by omega, by omega⟩
  · rintro ⟨a, first, last, rfl⟩
    omega

theorem State.startCheck_eq_none (s : State) (p : Port) (right : Right) {r : Range} (h : 1 ≤ r.length) :
    s.startCheck p right r = none
      ↔ ∀ a, r.first ≤ a → a < r.first + r.length → hasRight (s.regions.rightsAt p (a / 4096)) right = true := by
  simp only [State.startCheck, Option.map_eq_none_iff, List.find?_eq_none, Range.mem_sectors h, Bool.not_eq_true',
    Bool.not_eq_false]
  constructor
  · exact fun all a first last => all _ ⟨a, first, last, rfl⟩
  · rintro all x ⟨a, first, last, rfl⟩
    exact all a first last

theorem State.startCheck_eq_some {p : Port} {right : Right} {r : Range} {a : Nat} (first : r.first ≤ a)
    (last : a < r.first + r.length) (denied : ¬ hasRight (s.regions.rightsAt p (a / 4096)) right = true)
    (lowest : ∀ b, r.first ≤ b → b < a → b / 4096 < a / 4096 → hasRight (s.regions.rightsAt p (b / 4096)) right = true) :
    s.startCheck p right r = some (s.regions.deciderNumber (a / 4096)) := by
  refine congrArg (Option.map s.regions.deciderNumber) (List.find?_range'_eq_some.2 ⟨?_, ?_, fun j above below => ?_⟩)
  · simpa using denied
  · exact (Range.mem_sectors (by omega) _).2 ⟨a, first, last, rfl⟩
  · have sector : max r.first (j * 4096) / 4096 = j := by omega
    have allowed := lowest (max r.first (j * 4096)) (by omega) (by omega) (by omega)
    rw [sector] at allowed
    simp [allowed]

/-- Settles O46: the lowest covering entry decides, and the start check reports the lowest failing sector. -/
theorem lookupAndStartCheck : Obligations.LookupAndStartCheck := by
  unfold Obligations.LookupAndStartCheck
  refine ⟨fun t sector => ⟨fun i covers lowest => ?_, fun h => ?_⟩, fun e sector => ?_, fun rights => ⟨rfl, rfl, rfl⟩,
    ⟨rfl, rfl, rfl, rfl, rfl⟩, fun s p right r h => ?_⟩
  · simp only [RegionTable.rightsAt, RegionTable.deciderNumber, RegionTable.decider_eq_some covers lowest]
    exact ⟨rfl, rfl, trivial⟩
  · simp only [RegionTable.rightsAt, RegionTable.deciderNumber, RegionTable.decider_eq_none h]
    exact ⟨rfl, rfl, trivial⟩
  · simp only [RegionEntry.covers, Bool.and_eq_true, decide_eq_true_eq, and_assoc]
  · exact ⟨s.startCheck_eq_none p right h, fun a => State.startCheck_eq_some⟩

/-! ### The grant order -/

theorem find?_cons_eq_if {α : Type} (f : α → Bool) (a : α) (l : List α) :
    (a :: l).find? f = if f a then some a else l.find? f := by
  rw [List.find?_cons]
  cases f a <;> rfl

/-- The choice as the steps of R67 to R69 in their order. -/
theorem State.choose_eq (s : State) :
    s.choose =
      let r := s.arbiter.readPointer
      let w := s.arbiter.writePointer
      if s.arbiter.resumeDue && s.offers .resume then some .resume
      else if (s.aperture r).stalled && s.offers (.fill r) then some (.fill r)
      else if (s.aperture r.peer).stalled && s.offers (.fill r.peer) then some (.fill r.peer)
      else if s.offers (.fill r) then some (.fill r)
      else if s.offers (.readHead r) then some (.readHead r)
      else if s.offers (.fill r.peer) then some (.fill r.peer)
      else if s.offers (.readHead r.peer) then some (.readHead r.peer)
      else if s.offers .resume then some .resume
      else if s.offers (.writeHead w) then some (.writeHead w)
      else if s.offers (.writeHead w.peer) then some (.writeHead w.peer)
      else none := by
  unfold State.choose State.grantOrder
  cases s.arbiter.resumeDue <;> cases h1 : (s.aperture s.arbiter.readPointer).stalled <;>
    cases h2 : (s.aperture s.arbiter.readPointer.peer).stalled <;>
    simp only [List.filter_cons, List.filter_nil, List.map_cons, List.map_nil, List.cons_append, List.nil_append, *,
      find?_cons_eq_if, List.find?_nil, if_true, Bool.false_eq_true, if_false, Bool.true_and, Bool.false_and]

/-- Settles O48: the choice step by step. -/
theorem grantOrder : Obligations.GrantOrder := by
  unfold Obligations.GrantOrder
  intro s r w resumable stalled takes reads
  have order := s.choose_eq
  have resume : s.offers .resume = true ↔ resumable := Option.isSome_iff_exists
  refine ⟨s.choose_eq_none_iff, fun c => State.offers_of_choose, fun due can => ?_, fun h => ?_⟩
  · exact order.trans (if_pos (by simp [due, resume.2 can]))
  · replace order := order.trans (if_neg (by
      rw [Bool.and_eq_true, resume]
      rintro ⟨due, can⟩
      rcases h with h | h
      · rw [h] at due; cases due
      · exact h can))
    have stalled_iff (p : Port) : ((s.aperture p).stalled && s.offers (.fill p)) = true ↔ stalled p := by
      rw [Bool.and_eq_true]
    have no_stalled (p : Port) (h : ¬ reads p) : ¬ stalled p := fun hs => h (.inl hs.2)
    have no_fill (p : Port) (h : ¬ reads p) : ¬ s.offers (.fill p) = true := fun hf => h (.inl hf)
    have no_head (p : Port) (h : ¬ reads p) : ¬ s.offers (.readHead p) = true := fun hh => h (.inr hh)
    simp only [stalled_iff] at order
    refine ⟨fun h1 => ?_, fun h1 h2 => ?_, fun h1 h2 => ⟨fun h3 => ?_, fun h3 h4 => ?_, fun h3 h4 => ?_, fun h3 h4 h5 => ?_⟩,
      fun h1 h2 => ⟨fun h3 => ?_, fun h3 => ⟨fun h4 => ?_, fun h4 h5 => ?_⟩⟩⟩
    · exact order.trans (if_pos h1)
    · exact order.trans ((if_neg h1).trans (if_pos h2))
    all_goals
      refine order.trans ?_
    · rw [if_neg h1, if_neg h2, if_pos h3]
    · rw [if_neg h1, if_neg h2, if_neg (Bool.eq_false_iff.1 h3), if_pos h4]
    · rw [if_neg h1, if_neg h2, if_neg (no_fill r h3), if_neg (no_head r h3), if_pos h4]
    · rw [if_neg h1, if_neg h2, if_neg (no_fill r h3), if_neg (no_head r h3), if_neg (Bool.eq_false_iff.1 h4), if_pos h5]
    all_goals
      rw [if_neg (no_stalled r h1), if_neg (no_stalled r.peer h2), if_neg (no_fill r h1), if_neg (no_head r h1),
        if_neg (no_fill r.peer h2), if_neg (no_head r.peer h2)]
    · rw [if_pos (resume.2 h3)]
    · rw [if_neg (mt resume.1 h3), if_pos h4]
    · rw [if_neg (mt resume.1 h3), if_neg (Bool.eq_false_iff.1 h4), if_pos h5]

end Sys2Proof.Machine
end

section
/-! SUPPORT. Eligibility of each candidate, and the length of a fill (R60 to R66). -/

namespace Sys2Proof.Machine

variable {s : State} {p : Port}

/-! ### The write-class ranges -/

/-- A range of an active or suspended write-class operation. -/
def State.WritesTo (s : State) (r : Range) : Prop :=
  (∃ w, s.seq.active = some w ∧ w.kind.isWrite = true ∧ r = w.range) ∨ ∃ x, s.seq.suspended = some x ∧ r = x.op.range

theorem State.activeWriteRange_eq_some (s : State) (r : Range) :
    s.activeWriteRange = some r ↔ ∃ w, s.seq.active = some w ∧ w.kind.isWrite = true ∧ r = w.range := by
  unfold State.activeWriteRange
  cases s.seq.active with
  | none => simp
  | some w =>
    simp only [Option.ite_none_right_eq_some, Option.some.injEq, exists_eq_left', @eq_comm _ r]

theorem State.suspendedRange_eq_some (s : State) (r : Range) :
    s.suspendedRange = some r ↔ ∃ x, s.seq.suspended = some x ∧ r = x.op.range := by
  simp only [State.suspendedRange, Option.map_eq_some_iff, @eq_comm _ r]

theorem State.clearOfWrites_iff (s : State) (f : Range → Bool) :
    s.clearOfWrites f = true ↔ ∀ r, s.WritesTo r → ¬ f r = true := by
  simp only [State.clearOfWrites, Bool.and_eq_true, Option.all_eq_true, Bool.not_eq_true', ← Bool.not_eq_true,
    State.activeWriteRange_eq_some, State.suspendedRange_eq_some, State.WritesTo, or_imp, forall_and]

theorem Range.overlaps_iff_shared (r t : Range) :
    r.overlaps t = true ↔ ∃ b, (r.first ≤ b ∧ b < r.first + r.length) ∧ (t.first ≤ b ∧ b < t.first + t.length) := by
  rw [Range.overlaps_eq_true]
  constructor
  · rintro ⟨hr, ht, h1, h2⟩
    exact ⟨max r.first t.first, by omega, by omega⟩
  · rintro ⟨b, h1, h2⟩
    omega

/-! ### Each candidate -/

theorem State.blockedByHold_eq_false (s : State) (p : Port) : s.blockedByHold p = false ↔ s.holdOf p.peer = .none := by
  simp only [State.blockedByHold, decide_eq_false_iff_not, not_not, ne_eq]

theorem Kind.isWrite_eq_false (k : Kind) : k.isWrite = false ↔ k = .read ∨ k = .verify := by cases k <;> simp [Kind.isWrite]

theorem Kind.isWrite_eq_true (k : Kind) : k.isWrite = true ↔ k = .program ∨ k = .eraseSector ∨ k = .eraseBlock := by
  cases k <;> simp [Kind.isWrite]

theorem Queue.head_iff (q : Queue) (op : SlotOp) :
    q.head = some op ↔ q.slots[q.start] = .queued op ∧ q.state = .running ∧ ∀ (n : Fin 8) x, q.slots[n] ≠ .active x := by
  have active : q.hasActive = false ↔ ∀ (n : Fin 8) x, q.slots[n] ≠ .active x := by
    rw [← Bool.not_eq_true, Queue.hasActive_eq_true_iff]
    simp only [not_exists, ne_eq]
  rw [Queue.head_eq_some_iff, active]
  tauto

theorem State.offers_fill_iff (s : State) (p : Port) :
    s.offers (.fill p) = true ↔
      (s.aperture p).state = .opened ∧ (s.aperture p).fifo.length ≤ 8 ∧ (s.aperture p).inFlight = false
      ∧ (s.aperture p).fetch < s.capacity ∧ s.holdOf p.peer = .none
      ∧ ∀ r, s.WritesTo r → ¬ (r.first ≤ (s.aperture p).fetch ∧ (s.aperture p).fetch < r.first + r.length) := by
  simp only [State.offers, State.fillExists, Bool.and_eq_true, decide_eq_true_eq, Bool.not_eq_true',
    State.blockedByHold_eq_false, State.clearOfWrites_iff, Range.contains_eq_true, and_assoc]

theorem State.offers_readHead_iff (s : State) (p : Port) :
    s.offers (.readHead p) = true ↔
      ∃ op, (s.queue p).head = some op ∧ op.kind.isWrite = false ∧ s.holdOf p.peer = .none
        ∧ ∀ r, s.WritesTo r → ¬ op.range.overlaps r = true := by
  simp only [State.offers]
  cases h : (s.queue p).head with
  | none => simp
  | some op =>
    simp only [Bool.and_eq_true, Bool.not_eq_true', State.blockedByHold_eq_false, State.clearOfWrites_iff, and_assoc,
      Option.some.injEq, exists_eq_left']

theorem State.offers_writeHead_iff (s : State) (p : Port) :
    s.offers (.writeHead p) = true ↔
      ∃ op, (s.queue p).head = some op ∧ op.kind.isWrite = true ∧ s.holdOf p.peer = .none ∧ s.seq.suspended = none := by
  simp only [State.offers]
  cases h : (s.queue p).head with
  | none => simp
  | some op =>
    simp only [Bool.and_eq_true, Bool.not_eq_true', State.blockedByHold_eq_false, Option.isNone_iff_eq_none, and_assoc,
      Option.some.injEq, exists_eq_left']

theorem SlotOp.range_of_transfer {op : SlotOp} {n : Nat} {b : Fin 16}
    (hk : op.kind = .read ∨ op.kind = .verify ∨ op.kind = .program) (ht : op.transfer = some { length := n, buffer := b }) :
    op.range = { first := op.addr, length := n } := by
  unfold SlotOp.range
  rcases hk with hk | hk | hk <;> rw [hk, ht] <;> rfl

/-! ### The length of a fill -/

/-- The limits of a fill other than the suspended range (R66). -/
def State.fillLimit (s : State) (p : Port) : Nat :=
  min (16 - (s.aperture p).fifo.length) (min (4096 - (s.aperture p).fetch % 4096) (s.capacity - (s.aperture p).fetch))

theorem State.fillLength_of_above (h : ∀ x, s.seq.suspended = some x → x.op.range.first ≤ (s.aperture p).fetch) :
    s.fillLength p = s.fillLimit p := by
  unfold State.fillLength
  simp only
  split
  · next r hr =>
    obtain ⟨x, hx, rfl⟩ := (s.suspendedRange_eq_some r).1 hr
    exact if_neg (Nat.not_lt.2 (h x hx))
  · rfl

theorem State.fillLength_of_below {x : Suspended} (hx : s.seq.suspended = some x)
    (below : (s.aperture p).fetch < x.op.range.first) :
    s.fillLength p = min (s.fillLimit p) (x.op.range.first - (s.aperture p).fetch) := by
  unfold State.fillLength
  rw [(s.suspendedRange_eq_some _).2 ⟨x, hx, rfl⟩]
  exact if_pos below

/-- Where a suspended range stands, a fill stops below it or starts at or above it. -/
theorem State.fillLength_cases (s : State) (p : Port) :
    ((∀ x, s.seq.suspended = some x → x.op.range.first ≤ (s.aperture p).fetch) ∧ s.fillLength p = s.fillLimit p)
    ∨ ∃ x, s.seq.suspended = some x ∧ (s.aperture p).fetch < x.op.range.first
        ∧ s.fillLength p = min (s.fillLimit p) (x.op.range.first - (s.aperture p).fetch) := by
  by_cases h : ∀ x, s.seq.suspended = some x → x.op.range.first ≤ (s.aperture p).fetch
  · exact .inl ⟨h, State.fillLength_of_above h⟩
  · simp only [not_forall, Nat.not_le] at h
    obtain ⟨x, hx, below⟩ := h
    exact .inr ⟨x, hx, below, State.fillLength_of_below hx below⟩

/-- An offered fill is of 1 to 16 bytes, stays in its sector and below capacity (R66). -/
theorem State.fillLength_bounds (offered : s.offers (.fill p) = true) :
    1 ≤ s.fillLength p ∧ s.fillLength p ≤ 16
      ∧ ((s.aperture p).fetch + s.fillLength p - 1) / 4096 = (s.aperture p).fetch / 4096
      ∧ (s.aperture p).fetch + s.fillLength p ≤ s.capacity := by
  obtain ⟨-, room, -, below, -⟩ := (s.offers_fill_iff p).1 offered
  have limit : s.fillLength p ≤ s.fillLimit p ∧ 1 ≤ s.fillLength p := by
    have positive : 1 ≤ s.fillLimit p := by
      unfold State.fillLimit
      omega
    rcases s.fillLength_cases p with ⟨-, e⟩ | ⟨x, hx, hb, e⟩ <;> rw [e] <;> omega
  unfold State.fillLimit at limit
  omega

/-- No byte of an offered fill lies in the suspended range. -/
theorem State.fill_outside_suspended (offered : s.offers (.fill p) = true) {x : Suspended} (hx : s.seq.suspended = some x)
    {i : Nat} (hi : i < s.fillLength p) :
    ¬ (x.op.range.first ≤ (s.aperture p).fetch + i ∧ (s.aperture p).fetch + i < x.op.range.first + x.op.range.length) := by
  obtain ⟨-, -, -, -, -, clear⟩ := (s.offers_fill_iff p).1 offered
  have first := clear _ (.inr ⟨x, hx, rfl⟩)
  rcases s.fillLength_cases p with ⟨above, -⟩ | ⟨y, hy, below, e⟩
  · have := above x hx
    omega
  · obtain rfl := Option.some.inj (hx.symm.trans hy)
    omega

/-- Settles O47: each candidate's conditions, an operation's range, and the fill's limits. -/
theorem eligibilityAndFillSize : Obligations.EligibilityAndFillSize := by
  unfold Obligations.EligibilityAndFillSize
  intro s p writes inside head a
  refine ⟨Option.isSome_iff_exists, s.offers_fill_iff p, ?_, ?_, fun op => ⟨fun hk => ?_, fun hk => ?_, fun n b => SlotOp.range_of_transfer⟩,
    fun offered => ?_⟩
  · rw [State.offers_readHead_iff]
    refine exists_congr fun op => ?_
    have apart : (∀ r, s.WritesTo r → ¬ op.range.overlaps r = true) ↔ ∀ r, writes r → ∀ b, ¬ (inside op.range b ∧ inside r b) := by
      simp only [Range.overlaps_iff_shared, not_exists]
      rfl
    simp only [Queue.head_iff, Kind.isWrite_eq_false, apart, head]
    tauto
  · rw [State.offers_writeHead_iff]
    refine exists_congr fun op => ?_
    simp only [Queue.head_iff, Kind.isWrite_eq_true, head]
    tauto
  · unfold SlotOp.range; rw [hk]
  · unfold SlotOp.range; rw [hk]
  · intro plain
    obtain ⟨positive, small, sector, capacity⟩ := State.fillLength_bounds offered
    exact ⟨State.fillLength_of_above, fun x hx below => State.fillLength_of_below hx below, positive, small, sector, capacity,
      fun x hx i hi => State.fill_outside_suspended offered hx hi⟩

end Sys2Proof.Machine
end

section
/-! SUPPORT. The grants: allowed and denied heads and fills, the purge, and the resume (R14, R15, R49, R71 to R73, R104, R110). -/

namespace Sys2Proof.Machine

variable {s : State} {p : Port}

/-! ### Allowed -/

theorem State.grantHead_allowed {op : SlotOp} (head : (s.queue p).head = some op)
    (allowed : s.startCheck p op.kind.right op.range = none) :
    s.grantHead p = (if op.kind.isWrite then s.moveWritePointer p else s.moveReadPointer p).startHead p op := by
  simp only [State.grantHead, head, allowed]

theorem State.grantFill_allowed
    (allowed : s.startCheck p .read { first := (s.aperture p).fetch, length := s.fillLength p } = none) :
    s.grantFill p
      = ((s.moveReadPointer p).modAperture p fun a => { a with inFlight := true }).startOperation (s.fillRecord p) := by
  simp only [State.grantFill, allowed]
  rfl

/-- The FIFO shares an address with a starting range: one of the bytes between its addresses (R110). -/
theorem Aperture.purges_iff (r : Range) (a : Aperture) :
    (!a.fifo.isEmpty && Range.overlaps { first := a.current, length := a.fetch - a.current } r) = true
      ↔ a.fifo ≠ [] ∧ ∃ b, a.current ≤ b ∧ b < a.fetch ∧ r.first ≤ b ∧ b < r.first + r.length := by
  rw [Bool.and_eq_true, Range.overlaps_iff_shared]
  refine and_congr (by simp) (exists_congr fun b => ?_)
  simp only
  omega

/-- Settles O49: each allowed grant, and which FIFO a starting write empties. -/
theorem allowedGrants : Obligations.AllowedGrants := by
  unfold Obligations.AllowedGrants
  refine ⟨fun s p op head allowed => ?_, fun r a => ⟨fun h => ?_, fun h => ?_⟩, fun s p => ?_, fun s x hx => ?_⟩
  · intro n started record
    refine ⟨fun reads => ?_, fun writes => ?_⟩
    · refine (State.grantHead_allowed head allowed).trans ?_
      rw [if_neg (by simp [reads])]
      simp only [State.startHead, State.startOperation, OpKind.isWrite, reads, Bool.false_eq_true, if_false]
      rfl
    · refine (State.grantHead_allowed head allowed).trans ?_
      rw [if_pos writes]
      simp only [State.startHead, State.startOperation, OpKind.isWrite, writes, if_true]
      rfl
  · exact if_pos ((Aperture.purges_iff r a).2 h)
  · exact if_neg (mt (Aperture.purges_iff r a).1 h)
  · intro range allowed
    exact State.grantFill_allowed allowed
  · simp only [State.grant, State.grantResume, hx]
    rfl

/-! ### Denied -/

theorem RegionTable.deciderNumber_le (t : RegionTable) (sector : Nat) : t.deciderNumber sector ≤ 16 := by
  unfold RegionTable.deciderNumber
  split
  · next i _ => exact i.isLt.le
  · exact le_rfl

theorem State.startCheck_le {right : Right} {r : Range} {detail : Nat} (h : s.startCheck p right r = some detail) :
    detail ≤ 16 := by
  obtain ⟨sector, -, rfl⟩ := Option.map_eq_some_iff.1 h
  exact s.regions.deciderNumber_le sector

theorem State.grantHead_denied {op : SlotOp} {detail : Nat} (head : (s.queue p).head = some op)
    (denied : s.startCheck p op.kind.right op.range = some detail) :
    s.grantHead p = (if op.kind.isWrite then s.moveWritePointer p else s.moveReadPointer p).denyHead p detail := by
  simp only [State.grantHead, head, denied]

theorem State.grantFill_denied {detail : Nat}
    (denied : s.startCheck p .read { first := (s.aperture p).fetch, length := s.fillLength p } = some detail) :
    s.grantFill p = (s.moveReadPointer p).denyFill p := by
  simp only [State.grantFill, denied]

/-- A denied fill of a stalled port: the read ends with 0xFF and cause DENIED in the same event (R104, R108). -/
theorem State.denyFill_of_stalled (h : (s.aperture p).stalled = true) :
    s.denyFill p
      = (s.modPort p fun x =>
          { x with dataOut := some 0xFF
                   aperture := { x.aperture with state := .denied, stalled := false, stallTimer := none } }).notify p fun e =>
            { e with denyCnt := saturatingInc e.denyCnt, apCause := .denied, flags := e.flags ||| 4#9 } := by
  unfold State.denyFill
  rw [if_pos h, State.endStall_eq, State.apertureCause, State.countDenial, State.modAperture]
  simp only [State.notify_eq, State.modPort_modPort]
  refine State.modPort_congr ?_
  cases (s.port p).inReset <;> rfl

theorem State.denyFill_of_not_stalled (h : (s.aperture p).stalled = false) :
    s.denyFill p = (s.modAperture p fun a => { a with state := .denied }).countDenial p := by
  unfold State.denyFill
  exact if_neg (by simp [h])

/-- Settles O50: a denied head completes DENIED and is counted; a denied fill puts its aperture in DENIED. -/
theorem deniedGrants : Obligations.DeniedGrants := by
  unfold Obligations.DeniedGrants
  refine ⟨fun s p op detail head hd => ?_, fun s p detail hd => ?_⟩
  · intro n moved denied
    have waiting (arbiter : Arbiter) : ((moved arbiter).queue p).slots[n].waiting = some op := by
      obtain ⟨-, -, queued⟩ := Queue.head_eq_some head
      have queue : (moved arbiter).queue p = { s.queue p with start := n + 1 } :=
        (s.modQueue_queue_eq p p fun q => { q with start := n + 1 }).trans (if_pos rfl)
      rw [queue]
      exact congrArg Slot.waiting queued
    refine ⟨State.startCheck_le hd, fun reads => ?_, fun writes => ?_, fun arbiter => ?_, fun arbiter => ?_⟩
    · refine (State.grantHead_denied head hd).trans ?_
      rw [if_neg (by simp [reads])]
      rfl
    · refine (State.grantHead_denied head hd).trans ?_
      rw [if_pos writes]
      rfl
    · simp only [denied, State.notify_frame, State.finishSlot_frame]
      rfl
    · refine ⟨{ status := .denied, detail := BitVec.ofNat 8 detail, suspends := 0 }, ?_, rfl, rfl⟩
      have queue := State.finishSlot_queue (waiting arbiter)
        { status := .denied, detail := BitVec.ofNat 8 detail, suspends := 0 } p
      rw [if_pos rfl] at queue
      have notified : (denied arbiter).queue p = _ := (by simp only [denied, State.notify_frame] : _ = _).trans queue
      rw [notified]
      simp [Queue.setSlot]
  · intro moved denyCnt
    exact ⟨fun h => (State.grantFill_denied hd).trans (State.denyFill_of_not_stalled h),
      fun h => (State.grantFill_denied hd).trans (State.denyFill_of_stalled h)⟩

end Sys2Proof.Machine
end

section
/-! SUPPORT. The plain fields of the window: what a write stores and what a read shows (R3, R176, R186). -/

namespace Sys2Proof.Machine

variable {p : Port} {s : State}

/-! ### Bytes of a 24-bit field -/

theorem setByte24_zero (x : BitVec 24) (v : Byte) : setByte24 x 0 v = x.extractLsb' 8 16 ++ v := by
  refine BitVec.eq_of_getLsbD_eq fun i hi => ?_
  simp only [setByte24, BitVec.getLsbD_or, BitVec.getLsbD_and, BitVec.getLsbD_setWidth, BitVec.getLsbD_append,
    BitVec.getLsbD_extractLsb']
  interval_cases i <;> simp

theorem setByte24_one (x : BitVec 24) (v : Byte) : setByte24 x 1 v = x.extractLsb' 16 8 ++ v ++ x.extractLsb' 0 8 := by
  refine BitVec.eq_of_getLsbD_eq fun i hi => ?_
  simp only [setByte24, BitVec.getLsbD_or, BitVec.getLsbD_and, BitVec.getLsbD_setWidth, BitVec.getLsbD_append,
    BitVec.getLsbD_extractLsb', BitVec.getLsbD_shiftLeft]
  interval_cases i <;> simp

theorem setByte24_two (x : BitVec 24) (v : Byte) : setByte24 x 2 v = v ++ x.extractLsb' 0 16 := by
  refine BitVec.eq_of_getLsbD_eq fun i hi => ?_
  simp only [setByte24, BitVec.getLsbD_or, BitVec.getLsbD_and, BitVec.getLsbD_setWidth, BitVec.getLsbD_append,
    BitVec.getLsbD_extractLsb', BitVec.getLsbD_shiftLeft]
  interval_cases i <;> simp

/-! ### A write at an offset without a row of its own -/

theorem exec_registerWrite_plain {offset : BitVec 6} (v : Byte) (ht : s.accessTaken p = true) (h : ownWriteRow offset = false) :
    exec (.registerWrite p offset v) s = .next (writePlain p offset v s) := by
  refine congrArg _ (?_ : writeWindow p offset v s = _)
  unfold writeWindow
  split
  case h_9 => exact State.access_of_taken ht _
  all_goals
    next own => simp [ownWriteRow, own] at h

/-- The offsets whose write changes nothing: read-only and unlisted ones (R176). -/
theorem writePlain_ignored {offset : BitVec 6} (v : Byte)
    (h : offset.toNat ∈ [0x00, 0x01, 0x03, 0x04, 0x05, 0x0E, 0x0F, 0x10, 0x11, 0x12, 0x13, 0x14, 0x15, 0x16, 0x17, 0x1B, 0x1C,
      0x1D, 0x1E, 0x1F, 0x23, 0x26, 0x27, 0x29, 0x2A, 0x2B, 0x30, 0x31, 0x32, 0x35, 0x36, 0x37, 0x38, 0x39, 0x3A, 0x3B, 0x3E,
      0x3F]) : writePlain p offset v s = s := by
  unfold writePlain
  split
  case h_19 => rfl
  all_goals
    next e => simp [e] at h

/-- Settles O7: REGISTER_WRITE offset by offset. -/
theorem plainWritesAreStored : Obligations.PlainWritesAreStored := by
  unfold Obligations.PlainWritesAreStored
  intro p v s ht composer apaddr byte0 byte1 byte2
  have stored (offset : BitVec 6) (own : ownWriteRow offset = false) {t : State} (h : writePlain p offset v s = t) :
      exec (.registerWrite p offset v) s = .next t := (exec_registerWrite_plain v ht own).trans (congrArg _ h)
  have first (x : BitVec 24) : setByte24 x 0 v = byte0 x := setByte24_zero x v
  have second (x : BitVec 24) : setByte24 x 1 v = byte1 x := setByte24_one x v
  have third (x : BitVec 24) : setByte24 x 2 v = byte2 x := setByte24_two x v
  refine ⟨stored _ rfl rfl, stored _ rfl rfl, stored _ rfl ?_, stored _ rfl ?_, stored _ rfl ?_, stored _ rfl rfl, stored _ rfl rfl,
    stored _ rfl rfl, stored _ rfl rfl, stored _ rfl ?_, stored _ rfl ?_, stored _ rfl ?_, stored _ rfl rfl,
    fun nonzero => stored _ rfl (if_neg nonzero), fun zero => stored _ rfl (if_pos zero), stored _ rfl rfl,
    fun range => stored _ rfl (if_pos (by simpa using range)), fun range => stored _ rfl (if_neg (by simp; omega)),
    stored _ rfl rfl, stored _ rfl rfl, fun offset h => stored _ ?_ (writePlain_ignored v h)⟩
  · simp only [composer, ← first]; rfl
  · simp only [composer, ← second]; rfl
  · simp only [composer, ← third]; rfl
  · simp only [apaddr, ← first]; rfl
  · simp only [apaddr, ← second]; rfl
  · simp only [apaddr, ← third]; rfl
  · cases own : ownWriteRow offset
    · rfl
    · simp only [ownWriteRow, List.contains_eq_mem, decide_eq_true_eq] at own
      simp only [List.mem_cons, List.not_mem_nil, or_false] at own h
      omega

end Sys2Proof.Machine
end

section
/-! SUPPORT. What the window shows: the plain fields after a write, the data a field selects, and the status fields (R3, R4,
R20, R30, R84, R92, R133, R176, R187). -/

namespace Sys2Proof.Machine

variable {p : Port} {s : State} {o offset : BitVec 6}

/-! ### The plain whole-byte fields as a part of a port's record -/

/-- The offsets of the plain fields that hold a whole byte. -/
def plainOffsets : List Nat :=
  [0x06, 0x07, 0x08, 0x09, 0x0A, 0x0B, 0x0C, 0x18, 0x19, 0x20, 0x21, 0x22, 0x28, 0x34, 0x3C]

/-- What a plain field shows; 0 at every other offset. -/
def PortState.plainByte (x : PortState) (offset : BitVec 6) : Byte :=
  match offset.toNat with
  | 0x06 => x.queue.composer.kind
  | 0x07 => x.queue.composer.tag
  | 0x08 => byteOf x.queue.composer.addr 0
  | 0x09 => byteOf x.queue.composer.addr 1
  | 0x0A => byteOf x.queue.composer.addr 2
  | 0x0B => x.queue.composer.len
  | 0x0C => x.queue.composer.buf
  | 0x18 => x.bufSel
  | 0x19 => x.bufOfs
  | 0x20 => byteOf x.aperture.apaddr 0
  | 0x21 => byteOf x.aperture.apaddr 1
  | 0x22 => byteOf x.aperture.apaddr 2
  | 0x28 => x.holdTime
  | 0x34 => x.events.holdoff
  | 0x3C => x.cfgIdx
  | _ => 0

/-- A port's record after a write of a plain field. -/
def PortState.setPlain (offset : BitVec 6) (v : Byte) (x : PortState) : PortState :=
  let composer := fun c : Composer => { x with queue := { x.queue with composer := c } }
  let apaddr := fun a : BitVec 24 => { x with aperture := { x.aperture with apaddr := a } }
  match offset.toNat with
  | 0x06 => composer { x.queue.composer with kind := v }
  | 0x07 => composer { x.queue.composer with tag := v }
  | 0x08 => composer { x.queue.composer with addr := setByte24 x.queue.composer.addr 0 v }
  | 0x09 => composer { x.queue.composer with addr := setByte24 x.queue.composer.addr 1 v }
  | 0x0A => composer { x.queue.composer with addr := setByte24 x.queue.composer.addr 2 v }
  | 0x0B => composer { x.queue.composer with len := v }
  | 0x0C => composer { x.queue.composer with buf := v }
  | 0x18 => { x with bufSel := v }
  | 0x19 => { x with bufOfs := v }
  | 0x20 => apaddr (setByte24 x.aperture.apaddr 0 v)
  | 0x21 => apaddr (setByte24 x.aperture.apaddr 1 v)
  | 0x22 => apaddr (setByte24 x.aperture.apaddr 2 v)
  | 0x28 => { x with holdTime := v }
  | 0x34 => { x with events := { x.events with holdoff := v } }
  | 0x3C => { x with cfgIdx := v }
  | _ => x

/-- A port's record without its plain fields: what the rest of the window is read from. -/
def PortState.blank (x : PortState) : PortState :=
  { x with
    queue := { x.queue with composer := .reset }
    aperture := { x.aperture with apaddr := 0 }
    events := { x.events with holdoff := 0 }
    bufSel := 0, bufOfs := 0, holdTime := 0, cfgIdx := 0 }

theorem byteOf_setByte24 (x : BitVec 24) (v : Byte) (i j : Fin 3) :
    byteOf (setByte24 x i v) j.val = if i = j then v else byteOf x j.val := by
  refine BitVec.eq_of_getLsbD_eq fun k hk => ?_
  have split : i = 0 ∨ i = 1 ∨ i = 2 := by omega
  have split' : j = 0 ∨ j = 1 ∨ j = 2 := by omega
  rcases split with rfl | rfl | rfl <;> rcases split' with rfl | rfl | rfl <;>
    simp only [setByte24_zero, setByte24_one, setByte24_two, byteOf, BitVec.getLsbD_setWidth, BitVec.getLsbD_ushiftRight,
      BitVec.getLsbD_append, BitVec.getLsbD_extractLsb'] <;>
    interval_cases k <;> simp

theorem ownWriteRow_of_plain (h : offset.toNat ∈ plainOffsets) : ownWriteRow offset = false := by
  cases own : ownWriteRow offset
  · rfl
  · simp only [ownWriteRow, List.contains_eq_mem, decide_eq_true_eq, plainOffsets, List.mem_cons, List.not_mem_nil, or_false] at own h
    omega

theorem writePlain_eq_setPlain (v : Byte) (h : offset.toNat ∈ plainOffsets) :
    writePlain p offset v s = s.modPort p (PortState.setPlain offset v) := by
  simp only [plainOffsets, List.mem_cons, List.not_mem_nil, or_false] at h
  unfold writePlain PortState.setPlain
  rcases h with h | h | h | h | h | h | h | h | h | h | h | h | h | h | h <;> simp only [h] <;> rfl

theorem PortState.setPlain_blank (offset : BitVec 6) (v : Byte) (x : PortState) : (x.setPlain offset v).blank = x.blank := by
  unfold PortState.setPlain
  simp only
  split <;> rfl

/-- One byte of a 24-bit field after a write of that byte, and of another. -/
theorem byteOf_setByte24_same (x : BitVec 24) (v : Byte) :
    byteOf (setByte24 x 0 v) 0 = v ∧ byteOf (setByte24 x 1 v) 1 = v ∧ byteOf (setByte24 x 2 v) 2 = v :=
  ⟨byteOf_setByte24 x v 0 0, byteOf_setByte24 x v 1 1, byteOf_setByte24 x v 2 2⟩

theorem byteOf_setByte24_other (x : BitVec 24) (v : Byte) :
    (byteOf (setByte24 x 0 v) 1 = byteOf x 1 ∧ byteOf (setByte24 x 0 v) 2 = byteOf x 2)
      ∧ (byteOf (setByte24 x 1 v) 0 = byteOf x 0 ∧ byteOf (setByte24 x 1 v) 2 = byteOf x 2)
      ∧ byteOf (setByte24 x 2 v) 0 = byteOf x 0 ∧ byteOf (setByte24 x 2 v) 1 = byteOf x 1 :=
  ⟨⟨byteOf_setByte24 x v 0 1, byteOf_setByte24 x v 0 2⟩, ⟨byteOf_setByte24 x v 1 0, byteOf_setByte24 x v 1 2⟩,
    byteOf_setByte24 x v 2 0, byteOf_setByte24 x v 2 1⟩

theorem PortState.setPlain_plainByte (v : Byte) (x : PortState) (h : offset.toNat ∈ plainOffsets) :
    (x.setPlain offset v).plainByte offset = v := by
  simp only [plainOffsets, List.mem_cons, List.not_mem_nil, or_false] at h
  unfold PortState.setPlain PortState.plainByte
  rcases h with h | h | h | h | h | h | h | h | h | h | h | h | h | h | h <;> simp only [h, byteOf_setByte24_same]

theorem PortState.setPlain_plainByte_of_ne (v : Byte) (x : PortState) (hne : o ≠ offset) :
    (x.setPlain offset v).plainByte o = x.plainByte o := by
  have apart : o.toNat ≠ offset.toNat := fun h => hne (BitVec.eq_of_toNat_eq h)
  unfold PortState.setPlain
  simp only
  split
  case h_16 => rfl
  all_goals
    next e =>
      rw [e] at apart
      unfold PortState.plainByte
      split <;> simp_all only [byteOf_setByte24_other, ne_eq, not_true_eq_false]

end Sys2Proof.Machine
end

section
/-! SUPPORT. What a read of the window shows after a plain write, and what each status field shows (R4, R20, R30, R84, R92, R97,
R133, R179, R187). -/

namespace Sys2Proof.Machine

variable {p : Port} {s t : State} {o offset : BitVec 6}

/-! ### What moves with a plain write -/

theorem State.windowByte_plain (s : State) (p : Port) (h : o.toNat ∈ plainOffsets) :
    s.windowByte p o = (s.port p).plainByte o := by
  simp only [plainOffsets, List.mem_cons, List.not_mem_nil, or_false] at h
  unfold State.windowByte PortState.plainByte
  rcases h with h | h | h | h | h | h | h | h | h | h | h | h | h | h | h <;> simp only [h]

/-- The window beside the plain fields and the two data registers reads nothing of the plain fields. -/
theorem State.windowByte_blank (s : State) (p : Port) (plain : o.toNat ∉ plainOffsets) (data : o.toNat ≠ 0x1A)
    (cfg : o.toNat ≠ 0x3D) : (s.modPort p PortState.blank).windowByte p o = s.windowByte p o := by
  simp only [plainOffsets, List.mem_cons, List.not_mem_nil, or_false, not_or] at plain
  unfold State.windowByte
  cases p <;> split <;> (try (exfalso; omega)) <;> rfl

theorem State.windowByte_modPort_peer (s : State) (p : Port) (f : PortState → PortState) (o : BitVec 6) :
    (s.modPort p f).windowByte p.peer o = s.windowByte p.peer o := by
  cases p <;> rfl

theorem State.bufdataByte_of_held {b : Fin 16} (hb : (s.port p).bufSel.toNat = b.val) (held : s.holder b = .port p) :
    s.bufdataByte p = s.bufferByte b (s.port p).bufOfs.toFin := by
  simp only [State.bufdataByte, State.reachable_of_held hb held]

theorem State.bufdataByte_of_not_held (h : ∀ b : Fin 16, (s.port p).bufSel.toNat = b.val → s.holder b ≠ .port p) :
    s.bufdataByte p = 0 := by
  simp only [State.bufdataByte, State.reachable_of_not_held h]

/-- BUFDATA reads BUFSEL, BUFOFS and the pool. -/
theorem State.bufdataByte_congr (sel : (t.port p).bufSel = (s.port p).bufSel) (ofs : (t.port p).bufOfs = (s.port p).bufOfs)
    (pool : t.pool = s.pool) : t.bufdataByte p = s.bufdataByte p := by
  have holder : t.holder = s.holder := by funext b; simp only [State.holder, pool]
  have byte : t.bufferByte = s.bufferByte := by funext b i; simp only [State.bufferByte, pool]
  simp only [State.bufdataByte, State.reachable, sel, ofs, holder, byte]

theorem PortState.setPlain_bufSel (v : Byte) (x : PortState) (h : offset ≠ 0x18) : (x.setPlain offset v).bufSel = x.bufSel :=
  PortState.setPlain_plainByte_of_ne (o := 0x18) v x h.symm

theorem PortState.setPlain_bufOfs (v : Byte) (x : PortState) (h : offset ≠ 0x19) : (x.setPlain offset v).bufOfs = x.bufOfs :=
  PortState.setPlain_plainByte_of_ne (o := 0x19) v x h.symm

theorem PortState.setPlain_cfgIdx (v : Byte) (x : PortState) (h : offset ≠ 0x3C) : (x.setPlain offset v).cfgIdx = x.cfgIdx :=
  PortState.setPlain_plainByte_of_ne (o := 0x3C) v x h.symm

/-- What a plain write leaves of its own window: every other offset, but for the data it selects (R92, R187). -/
theorem State.windowByte_setPlain_of_ne (s : State) (p : Port) (v : Byte) (hne : o ≠ offset)
    (data : ¬ (o = 0x1A ∧ (offset = 0x18 ∨ offset = 0x19))) (cfg : ¬ (o = 0x3D ∧ offset = 0x3C)) :
    (s.modPort p (PortState.setPlain offset v)).windowByte p o = s.windowByte p o := by
  have port : (s.modPort p (PortState.setPlain offset v)).port p = (s.port p).setPlain offset v := s.port_modPort p _
  by_cases plain : o.toNat ∈ plainOffsets
  · rw [State.windowByte_plain _ p plain, State.windowByte_plain _ p plain, port, PortState.setPlain_plainByte_of_ne v _ hne]
  by_cases buf : o = 0x1A
  · subst buf
    have others : offset ≠ 0x18 ∧ offset ≠ 0x19 := not_or.1 fun h => data ⟨rfl, h⟩
    refine State.bufdataByte_congr ?_ ?_ rfl
    · rw [port, PortState.setPlain_bufSel v _ others.1]
    · rw [port, PortState.setPlain_bufOfs v _ others.2]
  by_cases cfgdata : o = 0x3D
  · subst cfgdata
    have idx : ((s.modPort p (PortState.setPlain offset v)).port p).cfgIdx = (s.port p).cfgIdx := by
      rw [port, PortState.setPlain_cfgIdx v _ fun h => cfg ⟨rfl, h⟩]
    change s.cfgByte ((s.modPort p (PortState.setPlain offset v)).port p).cfgIdx = s.cfgByte (s.port p).cfgIdx
    rw [idx]
  · have notData : o.toNat ≠ 0x1A := fun h => buf (BitVec.eq_of_toNat_eq h)
    have notCfg : o.toNat ≠ 0x3D := fun h => cfgdata (BitVec.eq_of_toNat_eq h)
    rw [← State.windowByte_blank _ p plain notData notCfg, ← s.windowByte_blank p plain notData notCfg, State.modPort_modPort]
    exact congrArg (State.windowByte · p o) (State.modPort_congr (PortState.setPlain_blank offset v _))

/-! ### The status fields -/

theorem QueueState.code_toNat (q : QueueState) :
    q.code.toNat = match q with | .stopped => 0 | .running => 1 | .stopping => 2 | .halted => 3 := by cases q <;> rfl

theorem ApertureState.code_toNat (a : ApertureState) :
    a.code.toNat = match a with | .closed => 0 | .opened => 1 | .denied => 2 | .ended => 3 := by cases a <;> rfl

theorem HoldState.code_toNat (h : HoldState) : h.code.toNat = match h with | .none => 0 | .pending => 1 | .held => 2 := by
  cases h <;> rfl

theorem SeqState.code_toNat (x : SeqState) :
    x.code.toNat = match x with
      | .offline => 0 | .initializing => 1 | .idle => 2 | .reading => 3 | .writing => 4 | .busyWait => 5
      | .suspending => 6 | .resuming => 7 | .fault => 8 | .recovering => 9 := by cases x <;> rfl

/-- PSTAT keeps its four parts apart. -/
theorem State.pstat_toNat (s : State) (p : Port) :
    (s.pstat p).toNat = (s.queue p).state.code.toNat + 4 * (s.aperture p).state.code.toNat + 16 * (s.holdOf p).code.toNat
      + 64 * (if s.profile.authority = some p then 1 else 0) := by
  simp only [State.pstat, ← State.hasAuthority_iff]
  cases (s.queue p).state <;> cases (s.aperture p).state <;> cases s.holdOf p <;> cases s.hasAuthority p <;> rfl

theorem State.seqstat_toNat (s : State) :
    s.seqstat.toNat = s.seq.state.code.toNat + 16 * (if s.seq.suspended = none then 0 else 1) := by
  unfold State.seqstat
  cases s.seq.suspended with
  | none => rw [if_pos rfl]; cases s.seq.state <;> rfl
  | some x => rw [if_neg (by simp), Option.isSome_some]; cases s.seq.state <;> rfl

theorem Queue.count_le (q : Queue) (f : Slot → Bool) : q.count f ≤ 8 := by
  simpa [Queue.count] using List.countP_le_length (p := fun n : Fin 8 => f q.slots[n]) (l := List.finRange 8)

/-- QCOUNT keeps its two counts apart: each is at most 8. -/
theorem State.qcount_toNat (s : State) (p : Port) :
    (s.qcount p).toNat = (s.queue p).count Slot.isQueued + 16 * (s.queue p).count Slot.isDone := by
  have apart : ∀ a b : Fin 9, (BitVec.ofNat 8 a.val ||| (BitVec.ofNat 8 b.val <<< 4)).toNat = a.val + 16 * b.val := by decide
  exact apart ⟨_, Nat.lt_succ_of_le ((s.queue p).count_le Slot.isQueued)⟩ ⟨_, Nat.lt_succ_of_le ((s.queue p).count_le Slot.isDone)⟩

theorem State.charge_le (s : State) (p : Port) : s.charge p ≤ 16 := by
  simpa [State.charge] using List.countP_le_length (p := fun b : Fin 16 => (s.holder b).chargedTo p) (l := List.finRange 16)

theorem State.completionView_of_done {op : SlotOp} {c : Completion}
    (h : (s.queue p).slots[(s.queue p).retire] = .done op c) :
    s.completionView p
      = #v[1, BitVec.ofNat 8 (s.queue p).retire.val, op.tag, op.kind.code, c.status.code, c.detail, BitVec.ofNat 8 c.suspends] := by
  simp only [State.completionView, h]

theorem State.completionView_of_not_done (h : (s.queue p).slots[(s.queue p).retire].isDone = false) :
    s.completionView p = Vector.replicate 7 0 := by
  unfold State.completionView
  split
  · next e => rw [e] at h; cases h
  all_goals rfl

theorem toNat_ofNat_byte {n : Nat} (h : n < 256) : (BitVec.ofNat 8 n).toNat = n := Nat.mod_eq_of_lt h

/-- HOLDREM in HELD: the whole ms left, rounded up, and at least 1 (R133). -/
theorem State.holdRemaining_of_held {left : Nat} (held : s.holdOf p = .held) (ht : s.hold.timer = some left) :
    s.holdRemaining p = BitVec.ofNat 8 (max 1 ((left + 31999) / 32000)) := by
  simp only [State.holdRemaining, held, ht]
  rfl

/-- Settles O8: the plain fields by what a write moves, and each status field. -/
theorem windowShowsTheState : Obligations.WindowShowsTheState := by
  unfold Obligations.WindowShowsTheState
  refine ⟨fun p offset v s ht h => ?_, fun p s => ?_⟩
  · replace h : offset.toNat ∈ plainOffsets := h
    have port : (s.modPort p (PortState.setPlain offset v)).port p = (s.port p).setPlain offset v := s.port_modPort p _
    refine ⟨s.modPort p (PortState.setPlain offset v), ?_, ?_, fun o hne data cfg => s.windowByte_setPlain_of_ne p v hne data cfg,
      ?_, ?_, ?_, fun o => s.windowByte_modPort_peer p _ o⟩
    · rw [exec_registerWrite_plain v ht (ownWriteRow_of_plain h), writePlain_eq_setPlain v h]
    · rw [State.windowByte_plain _ p h, port, PortState.setPlain_plainByte v _ h]
    · rintro rfl
      have sel : ((s.modPort p (PortState.setPlain 0x18 v)).port p).bufSel = v := by rw [port]; rfl
      have ofs : ((s.modPort p (PortState.setPlain 0x18 v)).port p).bufOfs = (s.port p).bufOfs := by rw [port]; rfl
      refine ⟨fun b hb held => ?_, fun none => ?_⟩
      · refine (State.bufdataByte_of_held (s := s.modPort p (PortState.setPlain 0x18 v)) (b := b) (by rw [sel, hb]) held).trans ?_
        rw [ofs]
        rfl
      · refine State.bufdataByte_of_not_held (s := s.modPort p (PortState.setPlain 0x18 v)) fun b hb => none b ?_
        rwa [sel] at hb
    · rintro rfl
      have sel : ((s.modPort p (PortState.setPlain 0x19 v)).port p).bufSel = (s.port p).bufSel := by rw [port]; rfl
      have ofs : ((s.modPort p (PortState.setPlain 0x19 v)).port p).bufOfs = v := by rw [port]; rfl
      refine ⟨fun b hb held => ?_, fun none => ?_⟩
      · refine (State.bufdataByte_of_held (s := s.modPort p (PortState.setPlain 0x19 v)) (b := b) (by rw [sel, hb]) held).trans ?_
        rw [ofs]
        rfl
      · refine State.bufdataByte_of_not_held (s := s.modPort p (PortState.setPlain 0x19 v)) fun b hb => none b ?_
        rwa [sel] at hb
    · rintro rfl
      have idx : ((s.modPort p (PortState.setPlain 0x3C v)).port p).cfgIdx = v := by rw [port]; rfl
      change s.cfgByte ((s.modPort p (PortState.setPlain 0x3C v)).port p).cfgIdx = s.cfgByte v
      rw [idx]
  · intro shown q
    refine ⟨?_, ?_, s.qcount_toNat p, fun op c h => ?_, fun h offset low high => ?_, ?_, fun room => ?_, fun h => ?_, fun h => ?_,
      fun h ht => ?_, fun h left n ht positive small above below => ?_, rfl⟩
    · refine (s.pstat_toNat p).trans ?_
      rw [QueueState.code_toNat, ApertureState.code_toNat, HoldState.code_toNat] <;> rfl
    · refine s.seqstat_toNat.trans ?_
      rw [SeqState.code_toNat] <;> rfl
    · have view := State.completionView_of_done h
      refine ⟨?_, ?_, ?_, ?_, ?_, ?_, fun few => ?_⟩
      · change (s.completionView p)[0].toNat = 1
        rw [view]; rfl
      · change (s.completionView p)[1].toNat = q.retire.val
        rw [view]
        exact toNat_ofNat_byte (by omega)
      · change (s.completionView p)[2] = op.tag
        rw [view]; rfl
      · change (s.completionView p)[3].toNat = _
        rw [view]
        cases op.kind <;> rfl
      · change (s.completionView p)[4].toNat = _
        rw [view]
        cases c.status <;> rfl
      · change (s.completionView p)[5] = c.detail
        rw [view]; rfl
      · change (s.completionView p)[6].toNat = c.suspends
        rw [view]
        exact toNat_ofNat_byte (by omega)
    · have none (i : Fin 7) : (s.completionView p)[i].toNat = 0 := by
        rw [State.completionView_of_not_done h]
        simp
      have split : offset = 0x10 ∨ offset = 0x11 ∨ offset = 0x12 ∨ offset = 0x13 ∨ offset = 0x14 ∨ offset = 0x15 ∨ offset = 0x16 := by
        simp only [← BitVec.toNat_inj]
        change _ = 0x10 ∨ _ = 0x11 ∨ _ = 0x12 ∨ _ = 0x13 ∨ _ = 0x14 ∨ _ = 0x15 ∨ _ = 0x16
        omega
      rcases split with rfl | rfl | rfl | rfl | rfl | rfl | rfl
      exacts [none 0, none 1, none 2, none 3, none 4, none 5, none 6]
    · exact toNat_ofNat_byte (by have := s.charge_le p; omega)
    · exact toNat_ofNat_byte (show (s.aperture p).fifo.length < 256 by omega)
    · change (s.holdRemaining p).toNat = 0
      simp only [State.holdRemaining, h]
      rfl
    · change s.holdRemaining p = _
      simp only [State.holdRemaining, h]
    · change (s.holdRemaining p).toNat = 1
      rw [State.holdRemaining_of_held h ht]
      rfl
    · change (s.holdRemaining p).toNat = n
      rw [State.holdRemaining_of_held h ht, toNat_ofNat_byte (by omega)]
      omega

end Sys2Proof.Machine
end

section
/-! SUPPORT. The step on an empty queue: one REFCLK cycle, and the rows that fall due (assumptions 1, 3 and 22). -/

namespace Sys2Proof.Machine

variable {s : State}

/-- The rows due are queued in some order (assumption 3). -/
theorem arrange_perm (n : Nat) (rows : List Instr) : (arrange n rows).Perm rows := by
  induction rows with
  | nil => rfl
  | cons row rest ih =>
    unfold arrange
    split
    · next e =>
      rw [e] at ih
      rw [ih.nil_eq]
    · exact (List.perm_insertIdx row _ (Nat.le_of_lt_succ (Nat.mod_lt _ (Nat.succ_pos _)))).trans (ih.cons row)

theorem Sequencer.startsNow_iff (q : Sequencer) : q.startsNow = true ↔ (∃ u, q.line = .called u) ∧ q.gap = 0 := by
  unfold Sequencer.startsNow
  cases q.line <;> simp

theorem SeqState.accumulates_iff (x : SeqState) : x.accumulates = true ↔ x = .busyWait ∨ x = .suspending := by
  cases x <;> simp [SeqState.accumulates]

theorem lineRow_eq (q : Sequencer) :
    lineRow q = match q.line with
      | .onLine .writeEnable 0 => [.writeEnableEnd]
      | .onLine .command 0 => [.commandTransactionEnd]
      | .onLine .suspend 0 => [.suspendTransactionEnd]
      | .onLine .resume 0 => [.resumeTransactionEnd]
      | .onLine .resetEnable 0 => [.resetEnableEnd]
      | .onLine .resetDevice 0 => [.resetDeviceEnd]
      | .called _ => if q.gap = 0 then [.lineTransactionStart] else []
      | _ => [] := by
  unfold lineRow
  cases q.line with
  | idle => rfl
  | called u => rfl
  | onLine u left => cases left <;> cases u <;> rfl

/-- The part after one cycle on an empty queue. -/
def State.afterCycle (s : State) : State := { s.elapse 1 with ticks := s.ticks + 1 }

theorem tick_of_startsNow (h : s.seq.startsNow = true) : tick s = { s with pending := [.lineTransactionStart] } := if_pos h

theorem tick_of_waits (h : s.seq.startsNow = false) :
    tick s = { s.afterCycle with pending := arrange s.ticks (dueRows s s.afterCycle) } := if_neg (by simp [h])

theorem minimumRunRow_cases (s t : State) : minimumRunRow s t = [] ∨ minimumRunRow s t = [.runTimeReachesMinimum] := by
  unfold minimumRunRow
  split
  · split
    · exact .inr rfl
    · exact .inl rfl
  · exact .inl rfl

/-- The evaluation is due when the run time reaches the minimum in this cycle, or a request is still to be raised (R75). -/
theorem minimumRunRow_afterCycle (s : State) :
    minimumRunRow s s.afterCycle ≠ [] ↔ ∃ r, s.seq.active = some r
      ∧ ((s.seq.state = .busyWait ∧ r.runTime + 1 = s.minRunCycles) ∨ s.afterCycle.suspendDue = true) := by
  have active : s.afterCycle.seq.active = if s.seq.state.accumulates then s.seq.active.map (OpRecord.elapse 1) else s.seq.active := rfl
  unfold minimumRunRow
  cases ha : s.seq.active with
  | none => simp
  | some r =>
    have after : ∃ t, s.afterCycle.seq.active = some t ∧ (s.seq.state = .busyWait → t.runTime = r.runTime + 1) := by
      rw [active, ha]
      cases hs : s.seq.state.accumulates
      · refine ⟨r, rfl, fun h => ?_⟩
        rw [h] at hs; cases hs
      · exact ⟨r.elapse 1, rfl, fun _ => rfl⟩
    obtain ⟨t, ht, run⟩ := after
    have state : s.afterCycle.seq.state = s.seq.state := rfl
    have minimum : s.afterCycle.minRunCycles = s.minRunCycles := rfl
    rw [ht]
    simp only [state, minimum, Option.some.injEq, exists_eq_left', ne_eq, ite_eq_right_iff, imp_false, not_not,
      Bool.or_eq_true, Bool.and_eq_true, decide_eq_true_eq, List.cons_ne_nil]
    constructor
    · rintro (due | ⟨⟨busy, below⟩, reached⟩)
      · exact .inr due
      · have := run busy
        exact .inl ⟨busy, by omega⟩
    · rintro (⟨busy, now⟩ | due)
      · have := run busy
        exact .inr ⟨⟨busy, by omega⟩, by omega⟩
      · exact .inl due

theorem Sequencer.elapse_one (q : Sequencer) :
    q.elapse 1 = { q with
      active :=
        if q.state = .busyWait ∨ q.state = .suspending then
          q.active.map fun r => { r with busyTime := r.busyTime + 1, runTime := r.runTime + 1 }
        else q.active
      suspended := q.suspended.map fun x => { x with dwell := x.dwell + 1 }
      line := q.line.elapse 1
      gap := q.gap - 1
      pollTimer := elapseTimer 1 q.pollTimer, latencyTimer := elapseTimer 1 q.latencyTimer
      dwellTimer := elapseTimer 1 q.dwellTimer, recoveryTimer := elapseTimer 1 q.recoveryTimer } := by
  simp only [← SeqState.accumulates_iff]
  rfl

/-- Settles O2: a called transaction that can begin, or one cycle with the rows due in some order. -/
theorem idleStepPassesOneCycle : Obligations.IdleStepPassesOneCycle := by
  unfold Obligations.IdleStepPassesOneCycle
  intro s empty
  have run : step s = .next (tick s) := by
    unfold step
    rw [empty]
  refine ⟨fun u called free => ?_, fun waits => ?_⟩
  · rw [run, tick_of_startsNow (s.seq.startsNow_iff.2 ⟨⟨u, called⟩, free⟩)]
  · intro fallen port due minRun
    have waiting : s.seq.startsNow = false := by
      rw [← Bool.not_eq_true, Sequencer.startsNow_iff]
      rintro ⟨⟨u, called⟩, free⟩
      exact waits u called free
    refine ⟨_, minimumRunRow s s.afterCycle, run, ?_, ?_, minimumRunRow_cases s s.afterCycle, ?_⟩
    · rw [tick_of_waits waiting]
      have seq := s.seq.elapse_one
      have line : s.seq.line.elapse 1
          = match s.seq.line with | .onLine u left => .onLine u (left - 1) | .called u => .called u | .idle => .idle := by
        cases s.seq.line <;> rfl
      rw [line] at seq
      change ({ s with
        pending := _, ticks := s.ticks + 1, hold := { s.hold with timer := elapseTimer 1 s.hold.timer }
        ports := ⟨s.ports.a.elapse 1, s.ports.b.elapse 1⟩, seq := s.seq.elapse 1 } : State) = _
      rw [seq] <;> rfl
    · rw [tick_of_waits waiting]
      refine (arrange_perm _ _).trans (List.Perm.of_eq ?_)
      rw [dueRows, lineRow_eq] <;> rfl
    · rw [tick_of_waits waiting]
      refine (minimumRunRow_afterCycle s).trans (exists_congr fun r => and_congr_right fun _ => or_congr Iff.rfl ?_)
      simp only [State.suspendDue, Bool.and_eq_true, Bool.not_eq_true', and_assoc]
      rfl

end Sys2Proof.Machine
end

section
/-! SUPPORT. The settings' ranges under each operation of the state (R101, R166, R167): an operation that leaves the threshold,
the stall limit, the pending count and whether the holdoff timer runs keeps the ranges in both directions (`↔`); a completion
may also mend them, so it keeps them in one. -/

namespace Sys2Proof.Machine

variable {p : Port} {s t : State}

/-- The threshold of a port is 1 to 8, its stall limit not 0, and its holdoff timer runs exactly while completions wait. -/
def PortState.SettingsFit (x : PortState) : Prop :=
  (1 ≤ x.events.threshold.toNat ∧ x.events.threshold.toNat ≤ 8) ∧ x.aperture.limit ≠ 0
    ∧ (x.events.holdoffTimer.isSome = true ↔ 0 < x.events.pendingCount)

/-- Both ports' settings fit. -/
def State.InRange (s : State) : Prop := ∀ p, (s.port p).SettingsFit

theorem settingsInRange_iff (s : State) : SettingsInRange s ↔ s.InRange :=
  ⟨fun h p => ⟨h.threshold p, h.limit p, h.coalescing p⟩,
    fun h => ⟨fun p => (h p).1, fun p => (h p).2.1, fun p => (h p).2.2⟩⟩

/-! ### Changes of one port's record -/

theorem PortState.settingsFit_congr {x y : PortState} (threshold : y.events.threshold = x.events.threshold)
    (limit : y.aperture.limit = x.aperture.limit) (timer : y.events.holdoffTimer.isSome = x.events.holdoffTimer.isSome)
    (count : y.events.pendingCount = x.events.pendingCount) : y.SettingsFit ↔ x.SettingsFit := by
  unfold PortState.SettingsFit
  rw [threshold, limit, timer, count]

theorem State.InRange.modPort {f : PortState → PortState} (h : s.InRange)
    (fit : (s.port p).SettingsFit → (f (s.port p)).SettingsFit) : (s.modPort p f).InRange := by
  intro q
  rcases Port.eq_or_peer p q with rfl | rfl
  · rw [State.port_modPort]; exact fit (h _)
  · rw [State.port_modPort_peer]; exact h p.peer

theorem State.modPort_inRange (s : State) (p : Port) {f : PortState → PortState}
    (keep : ∀ x, (f x).SettingsFit ↔ x.SettingsFit) : (s.modPort p f).InRange ↔ s.InRange := by
  refine ⟨fun h q => ?_, fun h => h.modPort (keep _).2⟩
  have hq := h q
  rcases Port.eq_or_peer p q with rfl | rfl
  · rwa [State.port_modPort, keep] at hq
  · rwa [State.port_modPort_peer] at hq

@[simp] theorem State.modQueue_inRange (s : State) (p : Port) (f : Queue → Queue) : (s.modQueue p f).InRange ↔ s.InRange :=
  s.modPort_inRange p fun _ => .rfl
@[simp] theorem State.setResult_inRange (s : State) (p : Port) (r : Result) : (s.setResult p r).InRange ↔ s.InRange :=
  s.modPort_inRange p fun _ => .rfl
@[simp] theorem State.drive_inRange (s : State) (p : Port) (d : Option Byte) : (s.drive p d).InRange ↔ s.InRange :=
  s.modPort_inRange p fun _ => .rfl
@[simp] theorem State.setInReset_inRange (s : State) (p : Port) (b : Bool) : (s.setInReset p b).InRange ↔ s.InRange :=
  s.modPort_inRange p fun _ => .rfl
@[simp] theorem State.markRefused_inRange (s : State) (p : Port) : (s.markRefused p).InRange ↔ s.InRange :=
  s.modPort_inRange p fun _ => .rfl
@[simp] theorem State.advanceBufOfs_inRange (s : State) (p : Port) : (s.advanceBufOfs p).InRange ↔ s.InRange :=
  s.modPort_inRange p fun _ => .rfl
@[simp] theorem State.advanceCfgIdx_inRange (s : State) (p : Port) : (s.advanceCfgIdx p).InRange ↔ s.InRange :=
  s.modPort_inRange p fun _ => .rfl
@[simp] theorem State.giveBuffer_inRange (s : State) (p : Port) (b : Fin 16) : (s.giveBuffer p b).InRange ↔ s.InRange :=
  State.modPort_inRange _ p fun _ => .rfl
@[simp] theorem State.setQueueState_inRange (s : State) (p : Port) (x : QueueState) :
    (s.setQueueState p x).InRange ↔ s.InRange := s.modQueue_inRange p _
@[simp] theorem State.modComposer_inRange (s : State) (p : Port) (f : Composer → Composer) :
    (s.modComposer p f).InRange ↔ s.InRange := s.modQueue_inRange p _

/-! ### The aperture -/

@[simp] theorem Aperture.endAtCapacity_limit (c : Nat) (a : Aperture) : (a.endAtCapacity c).limit = a.limit := by
  unfold Aperture.endAtCapacity; split <;> rfl
@[simp] theorem Aperture.takeByte_limit (c : Nat) (a : Aperture) : (a.takeByte c).limit = a.limit := by
  simp [Aperture.takeByte]
@[simp] theorem Aperture.purge_limit (r : Range) (a : Aperture) : (a.purge r).limit = a.limit := by
  unfold Aperture.purge; split <;> rfl

@[simp] theorem State.modAperture_inRange (s : State) (p : Port) {f : Aperture → Aperture} (keep : ∀ a, (f a).limit = a.limit) :
    (s.modAperture p f).InRange ↔ s.InRange :=
  s.modPort_inRange p fun x => PortState.settingsFit_congr rfl (keep x.aperture) rfl rfl

@[simp] theorem State.restart_inRange (s : State) (p : Port) (x : ApertureState) (n : Nat) :
    (s.modAperture p (Aperture.restart x n)).InRange ↔ s.InRange := s.modAperture_inRange p fun _ => rfl

@[simp] theorem State.endStall_inRange (s : State) (p : Port) (d : Option Byte) : (s.endStall p d).InRange ↔ s.InRange := by
  simp [State.endStall]
@[simp] theorem State.beginStall_inRange (s : State) (p : Port) : (s.beginStall p).InRange ↔ s.InRange := by
  simp [State.beginStall]
@[simp] theorem State.purge_inRange (s : State) (r : Range) : (s.purge r).InRange ↔ s.InRange := by simp [State.purge]
@[simp] theorem State.fillArrival_inRange (s : State) (p : Port) (g : Option (BitVec 16)) (data : List Byte) :
    (s.fillArrival p g data).InRange ↔ s.InRange := by
  unfold State.fillArrival
  simp only
  (repeat' split) <;> simp
@[simp] theorem State.deliverFill_inRange (s : State) (r : OpRecord) (data : List Byte) :
    (s.deliverFill r data).InRange ↔ s.InRange := by
  unfold State.deliverFill; split <;> simp

/-! ### The event unit -/

@[simp] theorem State.notify_inRange (s : State) (p : Port) {f : EventUnit → EventUnit}
    (threshold : ∀ e, (f e).threshold = e.threshold) (timer : ∀ e, (f e).holdoffTimer = e.holdoffTimer)
    (count : ∀ e, (f e).pendingCount = e.pendingCount) : (s.notify p f).InRange ↔ s.InRange := by
  unfold State.notify
  split
  · exact .rfl
  · exact s.modPort_inRange p fun x =>
      PortState.settingsFit_congr (threshold x.events) rfl (congrArg _ (timer x.events)) (count x.events)

@[simp] theorem State.raise_inRange (s : State) (p : Port) (f : Flag) : (s.raise p f).InRange ↔ s.InRange :=
  s.notify_inRange p (fun _ => rfl) (fun _ => rfl) fun _ => rfl
@[simp] theorem State.raiseBoth_inRange (s : State) (f : Flag) : (s.raiseBoth f).InRange ↔ s.InRange := by
  simp [State.raiseBoth]
@[simp] theorem State.apertureCause_inRange (s : State) (p : Port) (c : ApCause) : (s.apertureCause p c).InRange ↔ s.InRange :=
  s.notify_inRange p (fun _ => rfl) (fun _ => rfl) fun _ => rfl
@[simp] theorem State.holdCause_inRange (s : State) (p : Port) (c : HoldCause) : (s.holdCause p c).InRange ↔ s.InRange :=
  s.notify_inRange p (fun _ => rfl) (fun _ => rfl) fun _ => rfl
@[simp] theorem State.recoveryCause_inRange (s : State) (c : RecCause) : (s.recoveryCause c).InRange ↔ s.InRange := by
  simp [State.recoveryCause, EventUnit.raise]
@[simp] theorem State.countError_inRange (s : State) (p : Port) : (s.countError p).InRange ↔ s.InRange :=
  s.notify_inRange p (fun _ => rfl) (fun _ => rfl) fun _ => rfl
@[simp] theorem State.countDenial_inRange (s : State) (p : Port) : (s.countDenial p).InRange ↔ s.InRange :=
  s.notify_inRange p (fun _ => rfl) (fun _ => rfl) fun _ => rfl
@[simp] theorem State.noticeFreed_inRange (s : State) (p : Port) : (s.noticeFreed p).InRange ↔ s.InRange := by
  unfold State.noticeFreed
  split
  · rw [State.raise_inRange]; exact s.modPort_inRange p fun _ => .rfl
  · exact .rfl
@[simp] theorem State.buffersFreed_inRange (s : State) : s.buffersFreed.InRange ↔ s.InRange := by simp [State.buffersFreed]

/-- A completion notice stops the timer and clears the count together (R167). -/
@[simp] theorem State.InRange.completionNotice (h : s.InRange) (p : Port) : (s.notify p EventUnit.completionNotice).InRange := by
  rw [State.notify_eq]
  refine h.modPort fun fit => ?_
  split
  · exact fit
  · exact ⟨fit.1, fit.2.1, by simp [EventUnit.completionNotice, EventUnit.raise]⟩

theorem EventUnit.coalesce_threshold (k : Nat) (e : EventUnit) : (e.coalesce k).threshold = e.threshold := by
  unfold EventUnit.coalesce
  simp only
  (repeat' split) <;> rfl

/-- After a completion the timer runs exactly if the count was not cleared (R167). -/
theorem EventUnit.coalesce_timer_iff {k : Nat} (hk : k ≠ 0) (e : EventUnit) :
    (e.coalesce k).holdoffTimer.isSome = true ↔ 0 < (e.coalesce k).pendingCount := by
  have positive : 0 < e.pendingCount + k := by omega
  unfold EventUnit.coalesce
  simp only
  split
  · simp [EventUnit.completionNotice, EventUnit.raise]
  split
  · next runs => simp [runs, positive]
  · simp [startTimer, positive]

theorem State.InRange.countCompletions (h : s.InRange) (p : Port) (k : Nat) : (s.countCompletions p k).InRange := by
  unfold State.countCompletions
  split
  · exact h
  · next hk =>
    rw [State.notify_eq]
    refine h.modPort fun fit => ?_
    split
    · exact fit
    · exact ⟨by rw [EventUnit.coalesce_threshold]; exact fit.1, fit.2.1, EventUnit.coalesce_timer_iff hk _⟩

/-! ### The blocks that hold no settings -/

theorem State.inRange_congr (h : t.ports = s.ports) : t.InRange ↔ s.InRange := by
  unfold State.InRange State.port
  rw [h]

section
variable (s : State)

@[simp] theorem State.modSeq_inRange (f : Sequencer → Sequencer) : (s.modSeq f).InRange ↔ s.InRange := .rfl
@[simp] theorem State.setSeqState_inRange (x : SeqState) : (s.setSeqState x).InRange ↔ s.InRange := .rfl
@[simp] theorem State.modActive_inRange (f : OpRecord → OpRecord) : (s.modActive f).InRange ↔ s.InRange := .rfl
@[simp] theorem State.callLine_inRange (u : Transaction) : (s.callLine u).InRange ↔ s.InRange := .rfl
@[simp] theorem State.removeActive_inRange : s.removeActive.InRange ↔ s.InRange := .rfl
@[simp] theorem State.startPollTimer_inRange : s.startPollTimer.InRange ↔ s.InRange := .rfl
@[simp] theorem State.startLatencyTimer_inRange : s.startLatencyTimer.InRange ↔ s.InRange := .rfl
@[simp] theorem State.startResetSequence_inRange (x : SeqState) : (s.startResetSequence x).InRange ↔ s.InRange := .rfl
@[simp] theorem failHandshake_inRange : (failHandshake s).InRange ↔ s.InRange := .rfl
@[simp] theorem State.takeSuspendRequest_inRange : s.takeSuspendRequest.InRange ↔ s.InRange := .rfl
@[simp] theorem State.dropSuspendRequest_inRange : s.dropSuspendRequest.InRange ↔ s.InRange := .rfl
@[simp] theorem State.withPool_inRange (x : Pool) : ({ s with pool := x } : State).InRange ↔ s.InRange := .rfl
@[simp] theorem State.setHolder_inRange (b : Fin 16) (x : Holder) : (s.setHolder b x).InRange ↔ s.InRange := .rfl
@[simp] theorem State.setBuffer_inRange (b : Fin 16) (v : Vector Byte 256) : (s.setBuffer b v).InRange ↔ s.InRange := .rfl
@[simp] theorem State.setHold_inRange (p : Port) (x : HoldState) : (s.setHold p x).InRange ↔ s.InRange := .rfl
@[simp] theorem State.setHoldTimer_inRange (x : Timer) : (s.setHoldTimer x).InRange ↔ s.InRange := .rfl
@[simp] theorem State.setDuration_inRange (d : Byte) : (s.setDuration d).InRange ↔ s.InRange := .rfl
@[simp] theorem State.setAuthority_inRange (a : Option Port) : (s.setAuthority a).InRange ↔ s.InRange := .rfl
@[simp] theorem State.clearStaging_inRange : s.clearStaging.InRange ↔ s.InRange := .rfl
@[simp] theorem State.takeRegion_inRange (n : Fin 16) : (s.takeRegion n).InRange ↔ s.InRange := .rfl
@[simp] theorem State.moveReadPointer_inRange (p : Port) : (s.moveReadPointer p).InRange ↔ s.InRange := .rfl
@[simp] theorem State.moveWritePointer_inRange (p : Port) : (s.moveWritePointer p).InRange ↔ s.InRange := .rfl
@[simp] theorem State.countSuspension_inRange : s.countSuspension.InRange ↔ s.InRange := .rfl
@[simp] theorem State.countTimeout_inRange : s.countTimeout.InRange ↔ s.InRange := .rfl
@[simp] theorem State.countRecoveryFailure_inRange : s.countRecoveryFailure.InRange ↔ s.InRange := .rfl
@[simp] theorem State.setStaging_inRange (x v : Byte) : (s.setStaging x v).InRange ↔ s.InRange := by
  unfold State.setStaging; split <;> exact .rfl
@[simp] theorem State.freeBuffer_inRange (b : Fin 16) : (s.freeBuffer b).InRange ↔ s.InRange := by simp [State.freeBuffer]
@[simp] theorem State.returnBuffer_inRange (p : Port) (op : SlotOp) : (s.returnBuffer p op).InRange ↔ s.InRange := by
  unfold State.returnBuffer; split <;> simp
@[simp] theorem State.enqueue_inRange (p : Port) (op : SlotOp) : (s.enqueue p op).InRange ↔ s.InRange := by
  unfold State.enqueue
  simp only
  split <;> simp
@[simp] theorem State.dropHold_inRange (p : Port) : (s.dropHold p).InRange ↔ s.InRange := by
  unfold State.dropHold; split <;> simp
@[simp] theorem State.dropAuthority_inRange (p : Port) : (s.dropAuthority p).InRange ↔ s.InRange := by
  unfold State.dropAuthority; split <;> simp
@[simp] theorem State.grantHold_inRange (p : Port) : (s.grantHold p).InRange ↔ s.InRange := by simp [State.grantHold]
@[simp] theorem State.holdNotice_inRange (p : Port) : (s.holdNotice p).InRange ↔ s.InRange := by
  unfold State.holdNotice; split <;> simp
@[simp] theorem State.startOperation_inRange (r : OpRecord) : (s.startOperation r).InRange ↔ s.InRange := by
  unfold State.startOperation; split <;> simp
@[simp] theorem State.grantResume_inRange : s.grantResume.InRange ↔ s.InRange := by
  unfold State.grantResume; split <;> exact .rfl
@[simp] theorem State.evaluateSuspend_inRange : s.evaluateSuspend.InRange ↔ s.InRange := by
  unfold State.evaluateSuspend
  simp only
  (repeat' split) <;> exact .rfl
@[simp] theorem State.closeByCommit_inRange (p : Port) : (s.closeByCommit p).InRange ↔ s.InRange := by
  unfold State.closeByCommit
  split <;> simp
@[simp] theorem State.takeProfile_inRange : s.takeProfile.InRange ↔ s.InRange := by
  simp only [State.takeProfile, State.startResetSequence_inRange, State.raiseBoth_inRange, State.closeByCommit_inRange]
  exact .rfl
@[simp] theorem State.elapse_inRange (d : Nat) : (s.elapse d).InRange ↔ s.InRange := by
  refine forall_congr' fun p => ?_
  rw [State.elapse_port]
  exact PortState.settingsFit_congr rfl rfl (by simp [PortState.elapse, elapseTimer]) rfl
@[simp] theorem State.lineEnded_inRange (left : Nat) : (s.lineEnded left).InRange ↔ s.InRange := s.elapse_inRange left

end

/-! ### Completions and grants -/

theorem State.InRange.finishSlot (h : s.InRange) (p : Port) (n : Fin 8) (c : Completion) : (s.finishSlot p n c).InRange := by
  unfold State.finishSlot
  split
  · exact h
  · next op _ =>
    have counted := State.InRange.countCompletions (s := (s.modQueue p fun q => q.setSlot n (.done op c)).returnBuffer p op)
      (by simpa using h) p 1
    unfold State.queueAfterCompletion
    simp only
    (repeat' split) <;> simpa using counted

theorem State.InRange.handOver (h : s.InRange) (r : OpRecord) (st : Status) (d : Byte) : (s.handOver r st d).InRange := by
  unfold State.handOver
  split
  · cases r.buffer <;> simpa using h
  · split
    · exact h.finishSlot _ _ _
    · exact h

@[simp] theorem State.InRange.complete (h : s.InRange) (r : OpRecord) (st : Status) (d : Byte) : (s.complete r st d).InRange :=
  (State.holdNotice_inRange _ _).2 (State.InRange.handOver (s := s.removeActive) h r st d)

@[simp] theorem State.InRange.flushQueue (h : s.InRange) (p : Port) : (s.flushQueue p).InRange := by
  refine State.InRange.countCompletions ?_ p _
  exact (State.withPool_inRange _ _).2 ((s.modQueue_inRange p _).2 h)

theorem State.InRange.grantFill (h : s.InRange) (p : Port) : (s.grantFill p).InRange := by
  unfold State.grantFill
  simp only
  split
  · unfold State.denyFill
    simp only
    split <;> simpa using h
  · simpa using h

theorem State.InRange.grantHead (h : s.InRange) (p : Port) : (s.grantHead p).InRange := by
  unfold State.grantHead
  split
  · exact h
  · next op _ =>
    have moved : (if op.kind.isWrite then s.moveWritePointer p else s.moveReadPointer p).InRange := by split <;> simpa using h
    simp only
    split
    · exact (State.countDenial_inRange _ p).2 (State.InRange.finishSlot ((State.modQueue_inRange _ p _).2 moved) p _ _)
    · unfold State.startHead
      simp only [State.startOperation_inRange]
      by_cases hw : op.kind.isWrite = true <;> simpa [hw] using h

theorem State.InRange.grant (h : s.InRange) (c : Candidate) : (s.grant c).InRange := by
  cases c with
  | resume => exact s.grantResume_inRange.2 h
  | fill p => exact h.grantFill p
  | readHead p => exact h.grantHead p
  | writeHead p => exact h.grantHead p

theorem State.InRange.grantPoint (h : s.InRange) : s.grantPoint.InRange :=
  grantRepeat_induct (fun _ c ht _ _ => ht.grant c) 19 s h

@[simp] theorem State.InRange.enterIdle (h : s.InRange) : s.enterIdle.InRange := State.InRange.grantPoint (s := s.setSeqState .idle) h

@[simp] theorem State.InRange.consider (h : s.InRange) : s.consider.InRange := by
  unfold State.consider
  split
  · exact h.grantPoint
  · simpa using h

/-! ### The resets -/

theorem PortState.portReset_settingsFit (x : PortState) : x.portReset.SettingsFit :=
  ((settingsInRange_iff _).1 SettingsInRange.reset) .A

@[simp] theorem State.InRange.portReset (h : s.InRange) (p : Port) : (s.portReset p).InRange := by
  have reset : (s.modPort p PortState.portReset).InRange := h.modPort fun _ => (s.port p).portReset_settingsFit
  unfold State.portReset
  simp only [State.raise_inRange]
  split <;> simp only [State.noticeFreed_inRange, State.dropAuthority_inRange, State.dropHold_inRange, State.modSeq_inRange] <;>
    exact (State.withPool_inRange _ _).2 reset

theorem powerOn_inRange (s : State) : (powerOn s).InRange :=
  (State.inRange_congr (s := .reset) rfl).2 ((settingsInRange_iff _).1 SettingsInRange.reset)

end Sys2Proof.Machine
end

section
/-! SUPPORT. What every row keeps: the waiting commands, the tick counter (assumptions 14 and 17), and the settings in their
ranges (R101, R166, R167). -/

namespace Sys2Proof.Machine

/-- From `s` to `t` the waiting commands and the tick counter are kept, and so are settings that are in their ranges. -/
@[simp] def State.Steady (s t : State) : Prop :=
  t.pending = s.pending ∧ t.ticks = s.ticks ∧ (s.InRange → t.InRange)

theorem State.Steady.refl (s : State) : s.Steady s := ⟨rfl, rfl, id⟩

theorem State.Steady.trans {s t u : State} (h : s.Steady t) (g : t.Steady u) : s.Steady u :=
  ⟨g.1.trans h.1, g.2.1.trans h.2.1, g.2.2 ∘ h.2.2⟩

theorem State.access_steady (s : State) (p : Port) {f : State → State} (h : s.Steady (f s)) : s.Steady (s.access p f) := by
  rcases s.access_cases p f with e | ⟨-, e⟩ <;> rw [e]
  · exact .refl s
  · exact h

theorem State.command_steady (s : State) (p : Port) {f : State → State × Result} (h : s.Steady (f s).1) :
    s.Steady (s.command p f) :=
  s.access_steady p (h.trans (by simp))

theorem State.lineEnded_steady (s : State) (left : Nat) : s.Steady (s.lineEnded left) :=
  ⟨rfl, rfl, (s.lineEnded_inRange left).2⟩

theorem State.onOperationEnd_steady (s : State) (x : SeqState) (u : Transaction) {f : OpRecord → State → State}
    (h : ∀ left r, s.Steady (f r (s.lineEnded left))) : s.Steady (s.onOperationEnd x u f) := by
  rcases s.onOperationEnd_cases x u f with e | ⟨left, r, -, -, -, e⟩ <;> rw [e]
  · exact .refl s
  · exact h left r

theorem State.onResetEnd_steady (s : State) (u : Transaction) {f : State → State}
    (h : ∀ left, s.Steady (f (s.lineEnded left))) : s.Steady (s.onResetEnd u f) := by
  rcases s.onResetEnd_cases u f with e | ⟨left, -, -, e⟩ <;> rw [e]
  · exact .refl s
  · exact h left

theorem State.endTransaction_steady {s t : State} {u : Transaction} (h : s.endTransaction u = some t) : s.Steady t := by
  obtain ⟨left, -, rfl⟩ := (s.endTransaction_eq_some t u).1 h
  exact s.lineEnded_steady left

/-! ### The waiting commands and the tick counter under the operations that rows use -/

section
variable (s : State)

@[simp] theorem State.lineEnded_clock (left : Nat) :
    (s.lineEnded left).pending = s.pending ∧ (s.lineEnded left).ticks = s.ticks := ⟨rfl, rfl⟩
@[simp] theorem State.setQueueState_clock (p : Port) (x : QueueState) :
    (s.setQueueState p x).pending = s.pending ∧ (s.setQueueState p x).ticks = s.ticks := ⟨rfl, rfl⟩
@[simp] theorem State.giveBuffer_clock (p : Port) (b : Fin 16) :
    (s.giveBuffer p b).pending = s.pending ∧ (s.giveBuffer p b).ticks = s.ticks := ⟨rfl, rfl⟩
@[simp] theorem State.beginStall_clock (p : Port) :
    (s.beginStall p).pending = s.pending ∧ (s.beginStall p).ticks = s.ticks := ⟨rfl, rfl⟩
@[simp] theorem State.startResetSequence_clock (x : SeqState) :
    (s.startResetSequence x).pending = s.pending ∧ (s.startResetSequence x).ticks = s.ticks := ⟨rfl, rfl⟩
@[simp] theorem State.setStaging_clock (x v : Byte) :
    (s.setStaging x v).pending = s.pending ∧ (s.setStaging x v).ticks = s.ticks := by
  unfold State.setStaging; split <;> exact ⟨rfl, rfl⟩
@[simp] theorem State.enqueue_clock (p : Port) (op : SlotOp) :
    (s.enqueue p op).pending = s.pending ∧ (s.enqueue p op).ticks = s.ticks := by
  unfold State.enqueue; cases op.buffer <;> exact ⟨rfl, rfl⟩
@[simp] theorem State.flushQueue_clock (p : Port) :
    (s.flushQueue p).pending = s.pending ∧ (s.flushQueue p).ticks = s.ticks := by simp [State.flushQueue]
@[simp] theorem State.closeByCommit_clock (p : Port) :
    (s.closeByCommit p).pending = s.pending ∧ (s.closeByCommit p).ticks = s.ticks := by
  unfold State.closeByCommit; simp only; split <;> simp
@[simp] theorem State.takeProfile_clock : s.takeProfile.pending = s.pending ∧ s.takeProfile.ticks = s.ticks := by
  simp [State.takeProfile]
@[simp] theorem State.dropHold_clock (p : Port) :
    (s.dropHold p).pending = s.pending ∧ (s.dropHold p).ticks = s.ticks := by
  unfold State.dropHold; split <;> exact ⟨rfl, rfl⟩
@[simp] theorem State.dropAuthority_clock (p : Port) :
    (s.dropAuthority p).pending = s.pending ∧ (s.dropAuthority p).ticks = s.ticks := by
  unfold State.dropAuthority; split <;> simp
@[simp] theorem State.portReset_clock (p : Port) :
    (s.portReset p).pending = s.pending ∧ (s.portReset p).ticks = s.ticks := by
  unfold State.portReset; simp only; split <;> simp
@[simp] theorem State.deliverFill_clock (r : OpRecord) (data : List Byte) :
    (s.deliverFill r data).pending = s.pending ∧ (s.deliverFill r data).ticks = s.ticks := by
  unfold State.deliverFill; split <;> simp

end

theorem State.grantPoint_steady (s : State) : s.Steady s.grantPoint := ⟨by simp, by simp, State.InRange.grantPoint⟩

/-! ### The commands -/

theorem postBody_steady (p : Port) (s : State) : s.Steady (postBody p s).1 := by
  unfold postBody; (repeat' split) <;> simp +contextual [accept, refuse]
theorem retireBody_steady (p : Port) (s : State) : s.Steady (retireBody p s).1 := by
  unfold retireBody; simp only; split <;> simp [accept, refuse]
theorem startBody_steady (p : Port) (s : State) : s.Steady (startBody p s).1 := by
  unfold startBody; split <;> simp +contextual [accept, refuse]
theorem stopBody_steady (p : Port) (s : State) : s.Steady (stopBody p s).1 := by
  unfold stopBody; split <;> simp [accept]
theorem resumeBody_steady (p : Port) (s : State) : s.Steady (resumeBody p s).1 := by
  unfold resumeBody; split <;> simp +contextual [accept, refuse]
theorem flushBody_steady (p : Port) (s : State) : s.Steady (flushBody p s).1 := by
  unfold flushBody; (repeat' split) <;> simp +contextual [accept, refuse]
theorem claimBody_steady (p : Port) (s : State) : s.Steady (claimBody p s).1 := by
  unfold claimBody; (repeat' split) <;> simp [accept]
theorem releaseBody_steady (p : Port) (s : State) : s.Steady (releaseBody p s).1 := by
  unfold releaseBody; (repeat' split) <;> simp [accept, refuse]
theorem openBody_steady (p : Port) (s : State) : s.Steady (openBody p s).1 := by
  unfold openBody; simp only; (repeat' split) <;> simp +contextual [accept, refuse]
theorem closeBody_steady (p : Port) (s : State) : s.Steady (closeBody p s).1 := by simp [closeBody, accept]
theorem holdRequestBody_steady (p : Port) (s : State) : s.Steady (holdRequestBody p s).1 := by
  unfold holdRequestBody; simp only; (repeat' split) <;> simp [accept, refuse]
theorem holdRenewBody_steady (p : Port) (s : State) : s.Steady (holdRenewBody p s).1 := by
  unfold holdRenewBody; split <;> simp [accept, refuse]
theorem holdReleaseBody_steady (p : Port) (s : State) : s.Steady (holdReleaseBody p s).1 := by
  unfold holdReleaseBody; split <;> simp +contextual [accept, refuse]
theorem claimAuthorityBody_steady (p : Port) (s : State) : s.Steady (claimAuthorityBody p s).1 := by
  unfold claimAuthorityBody; (repeat' split) <;> simp [accept, refuse]
theorem releaseAuthorityBody_steady (p : Port) (s : State) : s.Steady (releaseAuthorityBody p s).1 := by
  unfold releaseAuthorityBody; split <;> simp [accept, refuse]
theorem commitProfileBody_steady (p : Port) (s : State) : s.Steady (commitProfileBody p s).1 := by
  unfold commitProfileBody; (repeat' split) <;> simp [accept, refuse]
theorem commitRegionBody_steady (p : Port) (s : State) : s.Steady (commitRegionBody p s).1 := by
  unfold commitRegionBody; simp only; (repeat' split) <;> simp [accept, refuse]
theorem commitDefaultsBody_steady (p : Port) (s : State) : s.Steady (commitDefaultsBody p s).1 := by
  unfold commitDefaultsBody
  (repeat' split)
  · exact .refl s
  · exact .refl s
  · exact State.Steady.trans (t := { s with regions := { s.regions with defaults := s.regions.stagedDefaults } })
      ⟨rfl, rfl, id⟩ (by simp [accept])
theorem clearCountersBody_steady (p : Port) (s : State) : s.Steady (clearCountersBody p s).1 :=
  ⟨rfl, rfl, fun h => h.modPort fun fit => fit⟩
theorem clearGlobalCountersBody_steady (p : Port) (s : State) : s.Steady (clearGlobalCountersBody p s).1 := by
  unfold clearGlobalCountersBody; split <;> exact ⟨rfl, rfl, id⟩
theorem recoverBody_steady (s : State) : s.Steady (recoverBody s).1 := by
  unfold recoverBody; split <;> simp [accept, refuse]

/-! ### The resets -/

theorem softReset_steady (p : Port) (s : State) : s.Steady (softReset p s) := by simp +contextual [softReset]
theorem recogniseReset_steady (p : Port) (s : State) : s.Steady (recogniseReset p s) := by
  unfold recogniseReset; split <;> simp +contextual
theorem endPortReset_steady (p : Port) (s : State) : s.Steady (endPortReset p s) := by
  unfold endPortReset; split <;> simp
theorem powerOn_steady (s : State) : s.Steady (powerOn s) := ⟨rfl, rfl, fun _ => powerOn_inRange s⟩
theorem endPowerOn_steady (lowA lowB : Bool) (s : State) : s.Steady (endPowerOn lowA lowB s) := by
  unfold endPowerOn
  split
  · exact State.Steady.trans (t := { s with powerOnReset := false }) ⟨rfl, rfl, id⟩ (by simp)
  · exact .refl s

/-! ### The window's accesses -/

theorem writeQmode_steady (p : Port) (v : Byte) (s : State) : s.Steady (writeQmode p v s) := by
  unfold writeQmode; split <;> simp
theorem readBufdata_steady (p : Port) (s : State) : s.Steady (readBufdata p s) := by
  unfold readBufdata; split <;> simp
theorem writeBufdata_steady (p : Port) (v : Byte) (s : State) : s.Steady (writeBufdata p v s) := by
  unfold writeBufdata; split <;> simp
theorem readApdata_steady (p : Port) (s : State) : s.Steady (readApdata p s) := by
  unfold readApdata; simp only; (repeat' split) <;> simp +contextual
theorem readCfgdata_steady (p : Port) (s : State) : s.Steady (readCfgdata p s) := by simp [readCfgdata]
theorem writeCfgdata_steady (p : Port) (v : Byte) (s : State) : s.Steady (writeCfgdata p v s) := by
  unfold writeCfgdata; simp only; (repeat' split) <;> simp
theorem writeEvflags_steady (p : Port) (high : Bool) (v : Byte) (s : State) : s.Steady (writeEvflags p high v s) :=
  ⟨rfl, rfl, fun h => h.modPort fun fit => fit⟩
theorem writeEvenable_steady (p : Port) (high : Bool) (v : Byte) (s : State) : s.Steady (writeEvenable p high v s) :=
  ⟨rfl, rfl, fun h => h.modPort fun fit => fit⟩

/-- STALLLIM takes no 0 and COALN only 1 to 8 (R101, R166). -/
theorem State.InRange.writePlain {s : State} (h : s.InRange) (p : Port) (offset : BitVec 6) (v : Byte) :
    (writePlain p offset v s).InRange := by
  unfold Machine.writePlain
  split
  case h_14 =>
    split
    · exact h
    · next nonzero => exact h.modPort fun fit => ⟨fit.1, nonzero, fit.2.2⟩
  case h_16 =>
    split
    · next range =>
      rw [Bool.and_eq_true, decide_eq_true_eq, decide_eq_true_eq] at range
      exact h.modPort fun fit => ⟨range, fit.2⟩
    · exact h
  case h_19 => exact h
  all_goals exact h.modPort fun fit => fit

theorem writePlain_steady (p : Port) (offset : BitVec 6) (v : Byte) (s : State) : s.Steady (writePlain p offset v s) := by
  refine ⟨?_, ?_, fun h => h.writePlain p offset v⟩ <;> unfold writePlain <;> (repeat' split) <;> rfl

theorem runCommand_steady (p : Port) (c : CommandName) (s : State) : s.Steady (runCommand p c s) := by
  cases c with
  | post => exact s.command_steady p (postBody_steady p s)
  | retire => exact s.command_steady p (retireBody_steady p s)
  | start => exact s.command_steady p (startBody_steady p s)
  | stop => exact s.command_steady p (stopBody_steady p s)
  | resume => exact s.command_steady p (resumeBody_steady p s)
  | flush => exact s.command_steady p (flushBody_steady p s)
  | claim => exact s.command_steady p (claimBody_steady p s)
  | release => exact s.command_steady p (releaseBody_steady p s)
  | openAperture => exact s.command_steady p (openBody_steady p s)
  | closeAperture => exact s.command_steady p (closeBody_steady p s)
  | holdRequest => exact s.command_steady p (holdRequestBody_steady p s)
  | holdRenew => exact s.command_steady p (holdRenewBody_steady p s)
  | holdRelease => exact s.command_steady p (holdReleaseBody_steady p s)
  | claimAuthority => exact s.command_steady p (claimAuthorityBody_steady p s)
  | releaseAuthority => exact s.command_steady p (releaseAuthorityBody_steady p s)
  | commitProfile => exact s.command_steady p (commitProfileBody_steady p s)
  | commitRegion => exact s.command_steady p (commitRegionBody_steady p s)
  | commitDefaults => exact s.command_steady p (commitDefaultsBody_steady p s)
  | clearGlobalCounters => exact s.command_steady p (clearGlobalCountersBody_steady p s)
  | recover => exact s.command_steady p (recoverBody_steady s)
  | clearCounters => exact s.command_steady p (clearCountersBody_steady p s)
  | softReset => exact s.access_steady p (softReset_steady p s)

theorem writeCommand_steady (p : Port) (code : Byte) (s : State) : s.Steady (writeCommand p code s) := by
  unfold writeCommand
  split
  · exact runCommand_steady p _ s
  · exact s.command_steady p (.refl s)

theorem writeWindow_steady (p : Port) (offset : BitVec 6) (v : Byte) (s : State) : s.Steady (writeWindow p offset v s) := by
  unfold writeWindow
  split
  · exact writeCommand_steady p v s
  · exact s.access_steady p (writeQmode_steady p v s)
  · exact s.access_steady p (writeBufdata_steady p v s)
  · exact s.access_steady p (writeEvflags_steady p false v s)
  · exact s.access_steady p (writeEvflags_steady p true v s)
  · exact s.access_steady p (writeEvenable_steady p false v s)
  · exact s.access_steady p (writeEvenable_steady p true v s)
  · exact s.access_steady p (writeCfgdata_steady p v s)
  · exact s.access_steady p (writePlain_steady p offset v s)

/-! ### Timers and the line -/

theorem abandonRead_steady (p : Port) (s : State) : s.Steady (abandonRead p s) := by
  unfold abandonRead; split <;> simp
theorem expireStall_steady (p : Port) (s : State) : s.Steady (expireStall p s) := by
  rcases expireStall_cases p s with e | ⟨-, -, e⟩ <;> simp [e]
theorem expireHoldoff_steady (p : Port) (s : State) : s.Steady (expireHoldoff p s) := by
  rcases expireHoldoff_cases p s with e | ⟨-, e⟩ <;> simp +contextual [e]
theorem expireHold_steady (s : State) : s.Steady (expireHold s) := by
  rcases expireHold_cases s with e | ⟨p, -, -, e⟩ <;> simp +contextual [e]
theorem beginTransaction_steady (s : State) : s.Steady (beginTransaction s) := by
  unfold beginTransaction; split <;> simp
theorem expirePoll_steady (s : State) : s.Steady (expirePoll s) := by
  unfold expirePoll; (repeat' split) <;> simp
theorem expireLatency_steady (s : State) : s.Steady (expireLatency s) := by
  unfold expireLatency; (repeat' split) <;> simp
theorem expireRecoveryDelay_steady (s : State) : s.Steady (expireRecoveryDelay s) := by
  unfold expireRecoveryDelay; (repeat' split) <;> simp
theorem expireDwell_steady (s : State) : s.Steady (expireDwell s) := by
  unfold expireDwell
  split
  · next left _ _ _ =>
    have keep {t : State} (ports : t.ports = (s.elapse left).ports) (h : s.InRange) : t.InRange :=
      (State.inRange_congr ports).2 ((s.elapse_inRange left).2 h)
    simp only
    split
    · refine State.Steady.trans ?_ (State.grantPoint_steady _)
      exact ⟨rfl, rfl, keep rfl⟩
    · exact ⟨rfl, rfl, keep rfl⟩
  · exact .refl s
theorem reachMinimumRun_steady (s : State) : s.Steady (reachMinimumRun s) := by
  unfold reachMinimumRun; (repeat' split) <;> simp

/-! ### The sequencer's rows -/

theorem finishRead_steady (data : List Byte) (s : State) : s.Steady (finishRead data s) := by
  refine s.onOperationEnd_steady _ _ fun left r => ?_
  split
  · cases r.buffer <;> simp +contextual
  · simp
theorem finishVerify_steady (data : List Byte) (s : State) : s.Steady (finishVerify data s) := by
  refine s.onOperationEnd_steady _ _ fun left r => ?_
  split <;> simp +contextual
theorem finishFill_steady (data : List Byte) (s : State) : s.Steady (finishFill data s) := by
  refine s.onOperationEnd_steady _ _ fun left r => ?_
  split <;> simp +contextual
theorem finishWriteEnable_steady (s : State) : s.Steady (finishWriteEnable s) :=
  s.onOperationEnd_steady _ _ fun left r => by simp
theorem checkWriteEnable_steady (status : Byte) (s : State) : s.Steady (checkWriteEnable status s) := by
  refine s.onOperationEnd_steady _ _ fun left r => ?_
  split <;> simp +contextual
theorem finishCommand_steady (s : State) : s.Steady (finishCommand s) :=
  s.onOperationEnd_steady _ _ fun left r => by simp

@[simp] theorem State.InRange.evaluateCompletion {s : State} (h : s.InRange) (r : OpRecord) (status : Byte) :
    (evaluateCompletion r status s).InRange := by
  unfold Machine.evaluateCompletion; split <;> exact h.complete _ _ _
@[simp] theorem evaluateCompletion_pending (r : OpRecord) (status : Byte) (s : State) :
    (evaluateCompletion r status s).pending = s.pending := by unfold evaluateCompletion; split <;> simp
@[simp] theorem evaluateCompletion_ticks (r : OpRecord) (status : Byte) (s : State) :
    (evaluateCompletion r status s).ticks = s.ticks := by unfold evaluateCompletion; split <;> simp
@[simp] theorem timeOut_steady (r : OpRecord) (s : State) : s.Steady (timeOut r s) := by simp +contextual [timeOut]
@[simp] theorem confirmSuspension_steady (r : OpRecord) (s : State) : s.Steady (confirmSuspension r s) := by
  simp +contextual [confirmSuspension]

theorem finishPoll_steady (status : Byte) (s : State) : s.Steady (finishPoll status s) := by
  refine s.onOperationEnd_steady _ _ fun left r => ?_
  have dropped : s.Steady (s.lineEnded left).dropSuspendRequest := s.lineEnded_steady left
  split
  · exact dropped.trans (by simp +contextual)
  split
  · exact dropped.trans (timeOut_steady r _)
  split <;> exact s.lineEnded_steady left
theorem finishSuspendTransaction_steady (s : State) : s.Steady (finishSuspendTransaction s) :=
  s.onOperationEnd_steady _ _ fun left r => by simp
theorem finishHandshakeRead_steady (status : Byte) (s : State) : s.Steady (finishHandshakeRead status s) := by
  refine s.onOperationEnd_steady _ _ fun left r => ?_
  have counted : s.Steady ((s.lineEnded left).modSeq fun q => { q with handshakeReads := q.handshakeReads + 1 }) :=
    s.lineEnded_steady left
  simp only
  split
  · split <;> exact s.lineEnded_steady left
  split
  · exact counted.trans (by simp +contextual)
  · exact counted.trans (confirmSuspension_steady r _)
theorem finishResumeTransaction_steady (s : State) : s.Steady (finishResumeTransaction s) :=
  s.onOperationEnd_steady _ _ fun left r => by simp
theorem finishResetEnable_steady (s : State) : s.Steady (finishResetEnable s) :=
  s.onResetEnd_steady _ fun left => by simp
theorem finishResetDevice_steady (s : State) : s.Steady (finishResetDevice s) :=
  s.onResetEnd_steady _ fun left => by simp
theorem finishInitialization_steady (status : Byte) (s : State) : s.Steady (finishInitialization status s) := by
  unfold finishInitialization
  split
  · next t h =>
    split
    · refine (State.endTransaction_steady h).trans ?_
      split <;> simp +contextual
    · exact .refl s
  · exact .refl s
theorem finishRecovery_steady (status : Byte) (s : State) : s.Steady (finishRecovery status s) := by
  unfold finishRecovery
  split
  · next t h =>
    split
    · refine (State.endTransaction_steady h).trans ?_
      split <;> simp +contextual
    · exact .refl s
  · exact .refl s

/-! ### Every row -/

/-- Every command has a next state, and a steady one. -/
theorem exec_steady (i : Instr) (s : State) : ∃ t, exec i s = .next t ∧ s.Steady t := by
  cases hbus : busWriteOf i with
  | some w => exact ⟨_, exec_of_busWriteOf hbus s, writeWindow_steady _ _ _ s⟩
  | none =>
    cases i with
    | bufdataRead p => exact ⟨_, rfl, s.access_steady p (readBufdata_steady p s)⟩
    | apdataRead p => exact ⟨_, rfl, s.access_steady p (readApdata_steady p s)⟩
    | cfgdataRead p => exact ⟨_, rfl, s.access_steady p (readCfgdata_steady p s)⟩
    | readAbandon p => exact ⟨_, rfl, abandonRead_steady p s⟩
    | prstRecognised p => exact ⟨_, rfl, recogniseReset_steady p s⟩
    | portInResetEnd p => exact ⟨_, rfl, endPortReset_steady p s⟩
    | powerOnReset => exact ⟨_, rfl, powerOn_steady s⟩
    | lineTransactionStart => exact ⟨_, rfl, beginTransaction_steady s⟩
    | readTransactionEnd data => exact ⟨_, rfl, finishRead_steady data s⟩
    | verifyEnd data => exact ⟨_, rfl, finishVerify_steady data s⟩
    | fillTransactionEnd data => exact ⟨_, rfl, finishFill_steady data s⟩
    | writeEnableEnd => exact ⟨_, rfl, finishWriteEnable_steady s⟩
    | writeEnableCheck status => exact ⟨_, rfl, checkWriteEnable_steady status s⟩
    | commandTransactionEnd => exact ⟨_, rfl, finishCommand_steady s⟩
    | pollTimerExpiry => exact ⟨_, rfl, expirePoll_steady s⟩
    | pollEnd status => exact ⟨_, rfl, finishPoll_steady status s⟩
    | runTimeReachesMinimum => exact ⟨_, rfl, reachMinimumRun_steady s⟩
    | suspendTransactionEnd => exact ⟨_, rfl, finishSuspendTransaction_steady s⟩
    | latencyTimerExpiry => exact ⟨_, rfl, expireLatency_steady s⟩
    | handshakeReadEnd status => exact ⟨_, rfl, finishHandshakeRead_steady status s⟩
    | dwellTimerExpiry => exact ⟨_, rfl, expireDwell_steady s⟩
    | resumeTransactionEnd => exact ⟨_, rfl, finishResumeTransaction_steady s⟩
    | resetEnableEnd => exact ⟨_, rfl, finishResetEnable_steady s⟩
    | resetDeviceEnd => exact ⟨_, rfl, finishResetDevice_steady s⟩
    | recoveryDelayExpiry => exact ⟨_, rfl, expireRecoveryDelay_steady s⟩
    | initializationEnd status => exact ⟨_, rfl, finishInitialization_steady status s⟩
    | recoveryEnd status => exact ⟨_, rfl, finishRecovery_steady status s⟩
    | stallTimerExpiry p => exact ⟨_, rfl, expireStall_steady p s⟩
    | holdTimerExpiry => exact ⟨_, rfl, expireHold_steady s⟩
    | holdoffTimerExpiry p => exact ⟨_, rfl, expireHoldoff_steady p s⟩
    | powerOnResetEnd lowA lowB => exact ⟨_, rfl, endPowerOn_steady lowA lowB s⟩
    | _ => cases hbus

/-- Settles O3: every row of the table has a steady next state. -/
theorem everyCommandCompletes : Obligations.EveryCommandCompletes := by
  unfold Obligations.EveryCommandCompletes
  intro i s
  obtain ⟨t, next, pending, ticks, -⟩ := exec_steady i s
  exact ⟨t, next, pending, ticks⟩

theorem State.InRange.tick {s : State} (h : s.InRange) : (tick s).InRange := by
  cases starts : s.seq.startsNow
  · rw [tick_of_waits starts]
    exact (s.elapse_inRange 1).2 h
  · rw [tick_of_startsNow starts]
    exact h

/-- Settles O59: a row is steady, and a cycle only counts the timers down. -/
theorem settingsStayInRange : Obligations.SettingsStayInRange := by
  unfold Obligations.SettingsStayInRange
  intro s t hs hstep
  rw [settingsInRange_iff] at hs ⊢
  unfold step at hstep
  split at hstep
  · exact Host.Outcome.next.inj hstep ▸ hs.tick
  · next c rest _ =>
    obtain ⟨u, next, -, -, keep⟩ := exec_steady c { s with pending := rest }
    have same : u = t := Host.Outcome.next.inj (next.symm.trans hstep)
    exact same ▸ keep hs

end Sys2Proof.Machine
end
